-- ==== Sys2Proof/Word.lean ====
section
/-! DEFINITION. The byte and the byte list of the block (spec/00_scope.md R8, R9): the spec's bit quantities are bytes and
7-bit values, and every buffer is a finite list of bytes indexed from 0. -/

namespace Sys2Proof

/-- R8: "A *byte* is 8 bits, value 0 to 255." -/
abbrev Byte := BitVec 8

/-- R8: a 7-bit value is a byte whose bit 7 is 0; where the spec types a register or a field as 7 bits wide, this is its type. -/
abbrev Seven := BitVec 7

/-- R9, R61: a buffer is a finite list of bytes indexed from 0. -/
abbrev Bytes := List Byte

/-- R25, D47: a name is a list of characters, "each character one byte, kept as received". -/
abbrev Text := List Byte

end Sys2Proof
end

