-- ==== Sys2Proof/Machine/Bits.lean ====
section
/-! DEFINITION. Byte and buffer helpers of spec/00_scope.md R8 to R10: 7-bit values, slices, reading one byte, big-endian bytes. -/

namespace Sys2Proof.Machine

/-- R8: a 7-bit value is a byte whose bit 7 is 0. -/
def is7 (b : Byte) : Bool :=
  !b.msb

/-- R91: every byte of the list is a 7-bit value. -/
def all7 (bs : Bytes) : Bool :=
  bs.all is7

/-- R9: `x[i..j)`, the sub-list from index `i` up to but not including `j`. -/
def slice (bs : Bytes) (i j : Nat) : Bytes :=
  (bs.drop i).take (j - i)

/-- R9: `x[i]`, read only where the caller has tested `i < len(x)` (R68). -/
def byteAt (bs : Bytes) (i : Nat) : Byte :=
  bs.getD i 0

/-- R8: a 7-bit value as a byte. -/
def wide (b : Seven) : Byte :=
  b.setWidth 8

/-- R8: bits 6 to 0 of a byte. -/
def low7 (b : Byte) : Seven :=
  b.setWidth 7

/-- R64: the `n` low bytes of a number, most significant first. -/
def bigEndian : Nat → Nat → Bytes
  | 0, _ => []
  | n + 1, v => bigEndian n (v / 256) ++ [BitVec.ofNat 8 v]

/-- R100: "accumulate `value = value*256 + byte` for each". -/
def accumulate (value : Nat) : Bytes → Nat
  | [] => value
  | b :: bs => accumulate (value * 256 + b.toNat) bs

end Sys2Proof.Machine
end

