-- ==== Sys2Proof/Syntax.lean ====
section
/-! DEFINITION. The instructions of the block, one constructor per row of spec/opcode_table.json, and the data their operands are
made of. -/

namespace Sys2Proof

/-- R6, R62: the three manufacturer-id bytes at indices 1 to 3 of a frame. -/
structure MnfrId where
  b1 : Byte
  b2 : Byte
  b3 : Byte
deriving DecidableEq, Repr

/-- R174: what FRAME.PARSE reads from a wire message. -/
structure ParsedFrame where
  mnfrId : MnfrId
  midiChannel : Byte
  deviceId : Byte
  commandCode : Byte
  wire : Bytes
  checksum : Byte
deriving DecidableEq, Repr

/-- R29: one latched upload block, a pair of a 7-bit command code and a raw payload. -/
structure Block where
  cmd : Seven
  raw : Bytes
deriving DecidableEq, Repr, Inhabited

/-- R250: one block as the patch-encoding collaborator hands it over; its command code is a byte, which UPLOAD.START tests. -/
structure HostBlock where
  cmd : Byte
  raw : Bytes
deriving DecidableEq, Repr

/-- R29: "the eight blocks of the upload in progress, indexed 1 to 8". -/
structure UploadBlocks where
  b1 : Block
  b2 : Block
  b3 : Block
  b4 : Block
  b5 : Block
  b6 : Block
  b7 : Block
  b8 : Block
deriving DecidableEq, Repr, Inhabited

/-- R13: "patch storage group; `0`=factory (read-only), `1`=user (writable)". The two banks a names request asks for (R103). -/
inductive Bank where
  | factory
  | user
deriving DecidableEq, Repr

/-- R310: the error classes, the document's four, the codec's "malformed message" of the table of R311, and the spec's two more. -/
inductive ErrorClass where
  | domain
  | malformedMessage
  | transport
  | protocolViolation
  | validation
  | liveness
  | refusal
deriving DecidableEq, Repr

/-- R311: every error of the block, X1 to X17 in order, each with what it records. X13 and X14 belong to the decoder
collaborator (R315) and are listed so that the code space is complete; what X13 records is given as the parameter's address (log 21). -/
inductive ErrorCode where
  | varintDomain (value : BitVec 32)
  | varintTruncated (cursor : Nat)
  | varintMalformed (cursor : Nat) (marker : Byte)
  | packMalformed (index : Nat)
  | frameDomain
  | frameMalformed
  | checksumMismatch (received computed : Byte)
  | notForThisDevice
  | unrecognizedCommand (cmd : Byte)
  | deviceReportedChecksumError
  | payloadMalformed (cmd : Byte)
  | patternMismatch
  | parameterError (sect parameter : Byte)
  | lookupMiss
  | watchdogExpired
  | portNotOpen
  | hostRefused
deriving DecidableEq, Repr, Inhabited

/-- R219, R6: the verdict of the OPEN function `PatchDumpWalk`. -/
inductive WalkVerdict where
  | ok
  | patternMismatch
deriving DecidableEq, Repr

/-- R102: the twenty inbound commands the block knows, in the order of their codes. -/
inductive InCmd where
  | enqack1 | enqack2 | status | ampcabReq | ampcab | x0A | namesReq | names | curnameReq | curname
  | enddump | dump | expr | x28 | custom | param | patchchg | x2E | ack | nak
deriving DecidableEq, Repr

/-- The instructions. Rows of format VARINT and PACKGROUP carry the value bits of their pattern; rows of format GNXF received by the
block carry the channel byte and the wire payload of the frame, the rest of the frame being fixed by the row (R90); rows of format OP
and EVENT carry the operands of R110; rows of format GNXF and RAW sent by the block carry what the row leaves open beside the channel,
which is the register's (R103). -/
inductive Instr where
  -- VARINT formats (R99, R108)
  | varintV1 (v : BitVec 7)
  | varintV2 (v : BitVec 8)
  | varintV3 (v : BitVec 16)
  | varintV4 (v : BitVec 24)
  | varintIllegal0
  | varintIllegalN (n : BitVec 7)
  -- the packed group (R94, R95)
  | packgroup (flags : BitVec 7) (data : List Seven)
  -- codec operations (R131, R132, R150, R153, R171 to R176)
  | varintEnc (value : BitVec 32)
  | varintDec (buf : Bytes) (pos : Nat)
  | pack (raw : Bytes)
  | unpack (wire : Bytes)
  | cksum (bytes : Bytes)
  | frameBuild (ch cmd : Byte) (wire : Bytes)
  | frameBuildP (ch cmd : Byte) (raw : Bytes)
  | frameParse (m : Bytes)
  | frameUnpack (m : Bytes)
  -- procedures (R201, R202, R206, R317)
  | send (cmd : Seven) (raw : Bytes)
  | fullResync
  | rawOf (p : ParsedFrame)
  | abort (x : ErrorCode)
  -- events (R350, R203 to R205, R257, R250, R270, R210, R211)
  | reset
  | portOpen
  | portClose
  | hostResync
  | hostSend (cmd : Byte) (raw : Bytes)
  | uploadStart (b1 b2 b3 b4 b5 b6 b7 b8 : HostBlock)
  | wdTick
  | rx (m : Bytes)
  | rxPassthru (m : Bytes)
  -- inbound frames (R102)
  | rxEnqack1 (ch : Seven) (wire : Bytes)
  | rxEnqack2 (ch : Seven) (wire : Bytes)
  | rxStatus (ch : Seven) (wire : Bytes)
  | rxAmpcabReq (ch : Seven) (wire : Bytes)
  | rxAmpcab (ch : Seven) (wire : Bytes)
  | rxX0A (ch : Seven) (wire : Bytes)
  | rxNamesReq (ch : Seven) (wire : Bytes)
  | rxNames (ch : Seven) (wire : Bytes)
  | rxCurnameReq (ch : Seven) (wire : Bytes)
  | rxCurname (ch : Seven) (wire : Bytes)
  | rxEnddump (ch : Seven) (wire : Bytes)
  | rxDump (ch : Seven) (wire : Bytes)
  | rxExpr (ch : Seven) (wire : Bytes)
  | rxX28 (ch : Seven) (wire : Bytes)
  | rxCustom (ch : Seven) (wire : Bytes)
  | rxParam (ch : Seven) (wire : Bytes)
  | rxPatchchg (ch : Seven) (wire : Bytes)
  | rxX2E (ch : Seven) (wire : Bytes)
  | rxAck (ch : Seven) (wire : Bytes)
  | rxNak (ch : Seven) (wire : Bytes)
  | rxUnrec (cmd : Seven) (ch : Seven) (wire : Bytes)
  -- outbound messages (R103, R104)
  | txStatusReq
  | txNamesReq (bank : Bank)
  | txAmpcabReq
  | txCurnameReq
  | txKeepalive
  | txAck
  | txHost (cmd : Seven) (raw : Bytes)
  | txUpload (block : Fin 8)
  | txEnquiry
deriving DecidableEq, Repr

/-- R111: the rows that are "selected by name at the block's interface", in the mnemonics of R110 and the table. `TX.UPLOAD` is
named too: its frame is whatever the block numbered in the register holds, and cannot be told from a host frame by its bits (log 19). -/
inductive Name where
  | varintEnc | varintDec | pack | unpack | cksum | frameBuild | frameBuildP | frameParse | frameUnpack
  | send | fullResync | rawOf | abort
  | reset | portOpen | portClose | hostResync | hostSend | uploadStart | wdTick | rx
  | txUpload
deriving DecidableEq, Repr

/-- R110: an operand of a line selected by name. -/
inductive Arg where
  | num (n : Nat)
  | byte (b : Byte)
  | bytes (bs : Bytes)
  | frame (p : ParsedFrame)
  | block (b : HostBlock)
  | error (x : ErrorCode)
deriving DecidableEq, Repr

/-- What stands at the block's interface and is decoded into an instruction (log 4): the bytes of one of the buffers of R61, the wire
message split by its direction, or a line selected by name (R110, R111). -/
inductive Item where
  | inbound (m : Bytes)
  | outbound (m : Bytes)
  | rawBytes (bs : Bytes)
  | wireBytes (bs : Bytes)
  | call (name : Name) (args : List Arg)
deriving DecidableEq, Repr

/-- Why an item is no instruction: a line whose operands are not those of its row, one whose operand is too wide for its row, or
outbound bytes that the block never sends. -/
inductive DecodeError where
  | operands (name : Name)
  | operandRange (name : Name)
  | notAnOutboundMessage
deriving DecidableEq, Repr

/-- The format column of spec/opcode_table.json (R111). -/
inductive Format where
  | varint
  | packgroup
  | op
  | event
  | gnxf
  | raw
deriving DecidableEq, Repr

end Sys2Proof
end

