-- ==== Sys2Proof/Config.lean ====
section
/-! DEFINITION. The configuration record `Cfg` of spec/00_scope.md R6, and one opaque constant for every parameter that R6 leaves OPEN
and for every value the spec leaves free. The parameters to which the spec gives a value are in Sys2Proof/Machine/Parameters.lean. -/

namespace Sys2Proof

/-- R96, D5: where a packed group keeps the flag of raw byte `j`. -/
inductive Align where
  | left
  | right
deriving DecidableEq, Repr

/-- R6: the configuration record. "No step writes it" (R30). The last four fields are not rows of R6: the alert strings of R292 and
R317, and two free values of the model (log 11, log 14). -/
structure Cfg where
  /-- `MNFR_ID` -/
  mnfrId : MnfrId
  /-- `DEVICE_ID` -/
  deviceId : Byte
  /-- `VARINT_MAX` -/
  varintMax : Nat
  /-- `GROUP`: data bytes of a packed group -/
  group : Nat
  /-- `CKSUM_FIRST`: first index of the checksum's range -/
  cksumFirst : Nat
  /-- `PARTIAL_ALIGN` -/
  partialAlign : Align
  /-- `WD_LIMIT` -/
  wdLimit : Nat
  /-- `WD_PERIOD` in milliseconds; "timing only, no rule depends on it" -/
  wdPeriodMs : Nat
  /-- `CHANNEL_LOCK` -/
  channelLock : Option Seven
  /-- `CHANNEL_RESET` -/
  channelReset : Seven
  /-- `ENQUIRY_FRAME` -/
  enquiryFrame : Bytes
  /-- `STATUS_REQ_RAW` -/
  statusReqRaw : Bytes
  /-- `NAMES_REQ_RAW(bank)` -/
  namesReqRaw : Byte → Bytes
  /-- `AMPCAB_REQ_RAW` -/
  ampcabReqRaw : Bytes
  /-- `CURNAME_REQ_RAW` -/
  curnameReqRaw : Bytes
  /-- `KEEPALIVE_RAW` -/
  keepaliveRaw : Bytes
  /-- `UPLOAD_ACK[1..7]`, first element for phase 1 -/
  uploadAck : List Byte
  /-- `ParseStatus` -/
  parseStatus : Bytes → Option (Byte × Byte)
  /-- `ParseNames` -/
  parseNames : Bytes → Option (Byte × List Text)
  /-- `ParsePatchName` -/
  parsePatchName : Bytes → Option Text
  /-- `ParsePatchChange` -/
  parsePatchChange : Bytes → Option (Byte × Byte)
  /-- `PatchDumpWalk` -/
  patchDumpWalk : Bytes → WalkVerdict
  /-- `title(X)` of R317 -/
  alertTitle : ErrorCode → String
  /-- `text(X)` of R317 -/
  alertText : ErrorCode → String
  /-- `uploadBlocks` after RESET, "unspecified" (R350): the `n`-th free value drawn -/
  freeBlocks : Nat → UploadBlocks
  /-- the error of FRAME.UNPACK on a message too short to hold a payload slice (R176) -/
  shortUnpackError : Bytes → ErrorCode

namespace Config

/-- R6 OPEN: "source §4.6 item 2 names the option, gives no value" (log 12). -/
opaque channelLock : Option Seven

/-- R6 OPEN, R104: the enquiry's bytes (log 12). -/
opaque enquiryFrame : Bytes

/-- R6 OPEN, D16 (log 12). -/
opaque parseStatus : Bytes → Option (Byte × Byte)

/-- R6 OPEN, D16 (log 12). -/
opaque parseNames : Bytes → Option (Byte × List Text)

/-- R6 OPEN, D16 (log 12). -/
opaque parsePatchName : Bytes → Option Text

/-- R6 OPEN, D16 (log 12). -/
opaque parsePatchChange : Bytes → Option (Byte × Byte)

/-- R6 OPEN, D17: whether the walk of a patch dump meets its magic bytes (log 12). -/
opaque patchDumpMatches : Bytes → Bool

/-- R292: the title strings other than "pattern mismatch" are not in the source (log 13). -/
opaque otherAlertTitle : ErrorCode → String

/-- R292: the alert texts are not in the source (log 13). -/
opaque alertText : ErrorCode → String

/-- R350, R351: "`uploadBlocks` after reset is unspecified" (log 11). -/
opaque freeBlocks : Nat → UploadBlocks

/-- R176: the operand "that FRAME.PARSE accepts" has at least nine bytes; the spec states no result for fewer (log 14). -/
opaque shortUnpackError : Bytes → ErrorCode

end Config

end Sys2Proof
end

