-- ==== Sys2Proof/Machine/Parameters.lean ====
section
/-! DEFINITION. The parameters of spec/00_scope.md R6 at the values the spec gives them (status "source" or "decision", log 31), beside
the OPEN ones, which stay the opaque constants of Sys2Proof/Config.lean. -/

namespace Sys2Proof.Machine

/-- R292: the one title the source gives for an alert the block itself raises is "pattern mismatch". -/
def alertTitle : ErrorCode → String
  | .patternMismatch => "pattern mismatch"
  | x => Config.otherAlertTitle x

/-- R6 OPEN: the verdict `Ok` or `PatternMismatch`. -/
def patchDumpWalk (raw : Bytes) : WalkVerdict :=
  if Config.patchDumpMatches raw then .ok else .patternMismatch

/-- R6, R7: the configuration of the machine. -/
def cfg : Cfg where
  mnfrId := ⟨0x00, 0x00, 0x10⟩
  deviceId := 0x56
  varintMax := 0xFFFFFF
  group := 7
  cksumFirst := 1
  partialAlign := .left
  wdLimit := 5
  wdPeriodMs := 1000
  channelLock := Config.channelLock
  channelReset := 0x00
  enquiryFrame := Config.enquiryFrame
  statusReqRaw := [0x01]
  namesReqRaw := fun bank => [bank]
  ampcabReqRaw := []
  curnameReqRaw := []
  keepaliveRaw := []
  uploadAck := [0x21, 0x24, 0x2A, 0x2A, 0x2A, 0x26, 0x28]
  parseStatus := Config.parseStatus
  parseNames := Config.parseNames
  parsePatchName := Config.parsePatchName
  parsePatchChange := Config.parsePatchChange
  patchDumpWalk := patchDumpWalk
  alertTitle := alertTitle
  alertText := Config.alertText
  freeBlocks := Config.freeBlocks
  shortUnpackError := Config.shortUnpackError

/-- R27, R38, R350: `CHANNEL_LOCK` when set, else `CHANNEL_RESET`. -/
def resetChannel (c : Cfg) : Seven :=
  match c.channelLock with
  | some ch => ch
  | none => c.channelReset

/-- R13: the number of a bank. -/
def bankNumber : Bank → Byte
  | .factory => 0x00
  | .user => 0x01

/-- R251: the acknowledgement subcode awaited in phase `ph`; phases 0 and above 7 await none. -/
def awaitedSubcode (c : Cfg) : Nat → Option Byte
  | 0 => none
  | ph + 1 => c.uploadAck[ph]?

end Sys2Proof.Machine
end

