-- ==== Sys2Proof/Machine/VarintCodec.lean ====
section
/-! DEFINITION. The VARINT unit (spec/40_varint.md): VARINT.ENC, VARINT.DEC, and a run of several VARINT.DEC. -/

namespace Sys2Proof.Machine

/-- R131: VARINT.ENC. -/
def varintEnc (c : Cfg) (value : BitVec 32) : Except ErrorCode Bytes :=
  if value.toNat > c.varintMax then .error (.varintDomain value)
  else if value.toNat < 0x80 then .ok [value.extractLsb' 0 8]
  else if value.toNat < 0x100 then .ok [0x81, value.extractLsb' 0 8]
  else if value.toNat < 0x10000 then .ok [0x82, value.extractLsb' 8 8, value.extractLsb' 0 8]
  else .ok [0x83, value.extractLsb' 16 8, value.extractLsb' 8 8, value.extractLsb' 0 8]

/-- R132: VARINT.DEC. The result is the advanced cursor and the value. -/
def varintDec (buf : Bytes) (pos : Nat) : Except ErrorCode (Nat × Nat) :=
  if pos ≥ buf.length then .error (.varintTruncated pos)
  else
    let b := byteAt buf pos
    let n := (low7 b).toNat
    if is7 b then .ok (pos + 1, b.toNat)
    else if n = 0 ∨ n > 3 then .error (.varintMalformed pos b)
    else if pos + 1 + n > buf.length then .error (.varintTruncated pos)
    else .ok (pos + 1 + n, accumulate 0 (slice buf (pos + 1) (pos + 1 + n)))

/-- R135: `count` varints in a row, each result's cursor fed to the next call; "If any call fails, the sequence fails with that error". -/
def varintDecSeq (buf : Bytes) : Nat → Nat → Except ErrorCode (Nat × List Nat)
  | 0, pos => .ok (pos, [])
  | count + 1, pos =>
    match varintDec buf pos with
    | .error x => .error x
    | .ok (pos', value) =>
      match varintDecSeq buf count pos' with
      | .error x => .error x
      | .ok (pos'', values) => .ok (pos'', value :: values)

/-- R99: the bytes of the form with marker count `n` (0 for V1, where the value is the byte itself). -/
def varintForm : Nat → Nat → Bytes
  | 0, v => [BitVec.ofNat 8 v]
  | n + 1, v => BitVec.ofNat 8 (0x80 + (n + 1)) :: bigEndian (n + 1) v

/-- R99, R108: a first byte whose bit 7 is set, with the count in its low 7 bits. -/
def varintMarker (n : BitVec 7) : Byte :=
  0x80 ||| wide n

end Sys2Proof.Machine
end

