-- ==== Sys2Proof/Machine/NibblePacker.lean ====
section
/-! DEFINITION. The PACKER unit (spec/41_nibble_packer.md): PACK and UNPACK over groups of `GROUP` raw bytes. -/

namespace Sys2Proof.Machine

/-- R95, R96: the header bit that holds bit 7 of raw byte `j` of a group of `k`. -/
def flagBit : Align → Nat → Nat → Nat
  | .left, _, j => 6 - j
  | .right, k, j => k - 1 - j

/-- R150: the header byte of a group of `k` raw bytes, from its byte `j` on. -/
def headerFrom (a : Align) (k : Nat) : Nat → Bytes → Byte
  | _, [] => 0
  | j, b :: bs => ((b >>> 7) <<< flagBit a k j) ||| headerFrom a k (j + 1) bs

/-- R94: one group: the header byte and each raw byte with its bit 7 cleared. -/
def packGroup (a : Align) (d : Bytes) : Bytes :=
  headerFrom a d.length 0 d :: d.map (· &&& 0x7F)

/-- R150: PACK, group by group; the number bounds how many groups there can be. -/
def packGroups (c : Cfg) : Nat → Bytes → Bytes
  | 0, _ => []
  | _ + 1, [] => []
  | n + 1, b :: bs => packGroup c.partialAlign ((b :: bs).take c.group) ++ packGroups c n ((b :: bs).drop c.group)

/-- R150: PACK. -/
def pack (c : Cfg) (data : Bytes) : Bytes :=
  packGroups c data.length data

/-- R95: the flag bits of a header that belong to no raw byte of a group of `k`: bits `6 - k` to 0, or under `right` the bits from `k`
up (log 16). -/
def unusedFlags : Align → Nat → Byte → Byte
  | .left, k, h => h &&& ((0x7F : Byte) >>> k)
  | .right, k, h => h >>> k

/-- R153: the raw bytes of one group, from its byte `j` on; `i` is the index of the header. -/
def unpackBytes (a : Align) (k : Nat) (h : Byte) (i : Nat) : Nat → Bytes → Except ErrorCode Bytes
  | _, [] => .ok []
  | j, b :: bs =>
    if is7 b then
      match unpackBytes a k h i (j + 1) bs with
      | .error x => .error x
      | .ok out => .ok ((b ||| (((h >>> flagBit a k j) &&& 1) <<< 7)) :: out)
    else .error (.packMalformed (i + 1 + j))

/-- R153: one group with header `h` at index `i` and data bytes `d`, in the order of the rule's tests. -/
def unpackGroup (a : Align) (i : Nat) (h : Byte) (d : Bytes) : Except ErrorCode Bytes :=
  if !is7 h then .error (.packMalformed i)
  else if d = [] then .error (.packMalformed i)
  else
    match unpackBytes a d.length h i 0 d with
    | .error x => .error x
    | .ok out => if unusedFlags a d.length h ≠ 0 then .error (.packMalformed i) else .ok out

/-- R153: UNPACK from index `i` on; the number bounds how many groups there can be. -/
def unpackGroups (c : Cfg) : Nat → Nat → Bytes → Except ErrorCode Bytes
  | 0, _, _ => .ok []
  | _ + 1, _, [] => .ok []
  | n + 1, i, h :: rest =>
    match unpackGroup c.partialAlign i h (rest.take c.group) with
    | .error x => .error x
    | .ok out =>
      match unpackGroups c n (i + 1 + (rest.take c.group).length) (rest.drop c.group) with
      | .error x => .error x
      | .ok more => .ok (out ++ more)

/-- R153: UNPACK. -/
def unpack (c : Cfg) (w : Bytes) : Except ErrorCode Bytes :=
  unpackGroups c w.length 0 w

end Sys2Proof.Machine
end

