-- ==== Sys2Proof/Machine/SysexFrame.lean ====
section
/-! DEFINITION. The FRAME unit (spec/42_sysex_frame.md): CKSUM, FRAME.BUILD, FRAME.BUILDP, FRAME.PARSE, FRAME.UNPACK. -/

namespace Sys2Proof.Machine

/-- R171: CKSUM, the exclusive or of all bytes, 0 for the empty list. -/
def cksum (bs : Bytes) : Byte :=
  bs.foldl (· ^^^ ·) 0

/-- R172: the body of a frame, everything between the start byte and the checksum. -/
def frameBody (c : Cfg) (ch cmd : Byte) (wire : Bytes) : Bytes :=
  [c.mnfrId.b1, c.mnfrId.b2, c.mnfrId.b3, ch, c.deviceId, cmd] ++ wire

/-- R90: a frame, with the checksum taken from index `CKSUM_FIRST` on (R92). -/
def frameBytes (c : Cfg) (ch cmd : Byte) (wire : Bytes) : Bytes :=
  let front := 0xF0 :: frameBody c ch cmd wire
  front ++ [cksum (front.drop c.cksumFirst), 0xF7]

/-- R172: FRAME.BUILD. -/
def frameBuild (c : Cfg) (ch cmd : Byte) (wire : Bytes) : Except ErrorCode Bytes :=
  if all7 (frameBody c ch cmd wire) then .ok (frameBytes c ch cmd wire) else .error .frameDomain

/-- R173: FRAME.BUILDP. -/
def frameBuildP (c : Cfg) (ch cmd : Byte) (raw : Bytes) : Except ErrorCode Bytes :=
  frameBuild c ch cmd (pack c raw)

/-- R92: the checksum a frame must carry, over the indices `CKSUM_FIRST` to `L - 3`. -/
def requiredChecksum (c : Cfg) (m : Bytes) : Byte :=
  cksum (slice m c.cksumFirst (m.length - 2))

/-- R175: FRAME.PARSE, tests in the rule's order. -/
def frameParse (c : Cfg) (m : Bytes) : Except ErrorCode ParsedFrame :=
  if m.length < 9 ∨ byteAt m 0 ≠ 0xF0 ∨ byteAt m (m.length - 1) ≠ 0xF7 then .error .frameMalformed
  else if !all7 (slice m 1 (m.length - 1)) then .error .frameMalformed
  else if requiredChecksum c m ≠ byteAt m (m.length - 2) then
    .error (.checksumMismatch (byteAt m (m.length - 2)) (requiredChecksum c m))
  else
    .ok { mnfrId := ⟨byteAt m 1, byteAt m 2, byteAt m 3⟩
          midiChannel := byteAt m 4
          deviceId := byteAt m 5
          commandCode := byteAt m 6
          wire := slice m 7 (m.length - 2)
          checksum := byteAt m (m.length - 2) }

/-- R176: FRAME.UNPACK, UNPACK of the payload slice; a message too short to have one gives an error of no stated code (log 14). -/
def frameUnpack (c : Cfg) (m : Bytes) : Except ErrorCode Bytes :=
  if m.length < 9 then .error (c.shortUnpackError m) else unpack c (slice m 7 (m.length - 2))

/-- R7, R210: the frame carries this device family's ids. -/
def forThisDevice (c : Cfg) (p : ParsedFrame) : Bool :=
  p.mnfrId == c.mnfrId && p.deviceId == c.deviceId

/-- R90, R174: the parsed frame of a received row: the fixed ids, the row's command, the channel and the wire payload. -/
def parsedOf (c : Cfg) (cmd : Seven) (ch : Seven) (wire : Bytes) : ParsedFrame :=
  { mnfrId := c.mnfrId
    midiChannel := wide ch
    deviceId := c.deviceId
    commandCode := wide cmd
    wire := wire
    checksum := requiredChecksum c (frameBytes c (wide ch) (wide cmd) wire) }

end Sys2Proof.Machine
end

