-- ==== Sys2Proof/Machine/CommandMap.lean ====
section
/-! DEFINITION. The command map of spec/30_encoding.md: inbound commands (R102) and the block's own outbound messages (R103). -/

namespace Sys2Proof.Machine

/-- R102: the code of each inbound command. -/
def inCode : InCmd → Seven
  | .enqack1 => 0x01
  | .enqack2 => 0x02
  | .status => 0x06
  | .ampcabReq => 0x07
  | .ampcab => 0x08
  | .x0A => 0x0A
  | .namesReq => 0x12
  | .names => 0x13
  | .curnameReq => 0x20
  | .curname => 0x21
  | .enddump => 0x22
  | .dump => 0x24
  | .expr => 0x26
  | .x28 => 0x28
  | .custom => 0x2A
  | .param => 0x2C
  | .patchchg => 0x2D
  | .x2E => 0x2E
  | .ack => 0x7E
  | .nak => 0x7F

/-- R102: the command a byte selects; "Every other 7-bit command value is unrecognised". -/
def inCommand (code : Byte) : Option InCmd :=
  match code.toNat with
  | 0x01 => some .enqack1
  | 0x02 => some .enqack2
  | 0x06 => some .status
  | 0x07 => some .ampcabReq
  | 0x08 => some .ampcab
  | 0x0A => some .x0A
  | 0x12 => some .namesReq
  | 0x13 => some .names
  | 0x20 => some .curnameReq
  | 0x21 => some .curname
  | 0x22 => some .enddump
  | 0x24 => some .dump
  | 0x26 => some .expr
  | 0x28 => some .x28
  | 0x2A => some .custom
  | 0x2C => some .param
  | 0x2D => some .patchchg
  | 0x2E => some .x2E
  | 0x7E => some .ack
  | 0x7F => some .nak
  | _ => none

/-- R103: `NAMES_REQ_RAW(bank)` for one of the two banks. -/
def namesReqRaw (c : Cfg) (bank : Bank) : Bytes :=
  c.namesReqRaw (bankNumber bank)

/-- R107, R218: the raw payload of the acknowledgement the block sends, "the block sends subcode `0x21` only". -/
def ackRaw : Bytes :=
  [0x21]

/-- R103: the message of the block's own that a command code and a raw payload make, if they make one. -/
def ownMessage (c : Cfg) (cmd : Byte) (raw : Bytes) : Option Instr :=
  if cmd = 0x05 ∧ raw = c.statusReqRaw then some .txStatusReq
  else if cmd = 0x12 ∧ raw = namesReqRaw c .factory then some (.txNamesReq .factory)
  else if cmd = 0x12 ∧ raw = namesReqRaw c .user then some (.txNamesReq .user)
  else if cmd = 0x07 ∧ raw = c.ampcabReqRaw then some .txAmpcabReq
  else if cmd = 0x20 ∧ raw = c.curnameReqRaw then some .txCurnameReq
  else if cmd = 0x76 ∧ raw = c.keepaliveRaw then some .txKeepalive
  else if cmd = 0x7E ∧ raw = ackRaw then some .txAck
  else none

end Sys2Proof.Machine
end

