-- ==== Sys2Proof/WellFormed.lean ====
section
/-! DEFINITION. Which instructions are values of their row: the constraints that spec/30_encoding.md puts on a row's fields beyond their
widths. -/

namespace Sys2Proof

/-- R90, R91: the wire payload of a received frame holds 7-bit values only. -/
def wireOk (wire : Bytes) : Bool :=
  Machine.all7 wire

/-- R94, R95: 1 to 7 data bytes, and no flag without its data byte. -/
def groupOk (flags : BitVec 7) (data : List Seven) : Bool :=
  1 ≤ data.length && data.length ≤ Machine.cfg.group &&
    Machine.unusedFlags Machine.cfg.partialAlign data.length (Machine.wide flags) == 0

/-- R211: a message of RX.PASSTHRU has a first byte, and that byte is not `0xF0`. -/
def passthruOk : Bytes → Bool
  | [] => false
  | b :: _ => b != 0xF0

/-- R103: a host frame is TX.HOST's when it is none of the block's own messages (log 19). -/
def hostFrameOk (cmd : Seven) (raw : Bytes) : Bool :=
  (Machine.ownMessage Machine.cfg (Machine.wide cmd) raw).isNone

/-- R104: the enquiry "has no `GNXF` header", so it is no frame of the block's (log 19). -/
def enquiryOk (m : Bytes) : Bool :=
  match Machine.frameParse Machine.cfg m with
  | .error _ => true
  | .ok p => !Machine.forThisDevice Machine.cfg p

/-- The constraints of each row. -/
def Instr.wellFormed : Instr → Bool
  | .varintV1 _ => true
  | .varintV2 _ => true
  | .varintV3 _ => true
  | .varintV4 _ => true
  | .varintIllegal0 => true
  | .varintIllegalN n => 4 ≤ n.toNat
  | .packgroup flags data => groupOk flags data
  | .varintEnc _ => true
  | .varintDec _ _ => true
  | .pack _ => true
  | .unpack _ => true
  | .cksum _ => true
  | .frameBuild _ _ _ => true
  | .frameBuildP _ _ _ => true
  | .frameParse _ => true
  | .frameUnpack _ => true
  | .send _ _ => true
  | .fullResync => true
  | .rawOf _ => true
  | .abort _ => true
  | .reset => true
  | .portOpen => true
  | .portClose => true
  | .hostResync => true
  | .hostSend _ _ => true
  | .uploadStart _ _ _ _ _ _ _ _ => true
  | .wdTick => true
  | .rx _ => true
  | .rxPassthru m => passthruOk m
  | .rxEnqack1 _ wire => wireOk wire
  | .rxEnqack2 _ wire => wireOk wire
  | .rxStatus _ wire => wireOk wire
  | .rxAmpcabReq _ wire => wireOk wire
  | .rxAmpcab _ wire => wireOk wire
  | .rxX0A _ wire => wireOk wire
  | .rxNamesReq _ wire => wireOk wire
  | .rxNames _ wire => wireOk wire
  | .rxCurnameReq _ wire => wireOk wire
  | .rxCurname _ wire => wireOk wire
  | .rxEnddump _ wire => wireOk wire
  | .rxDump _ wire => wireOk wire
  | .rxExpr _ wire => wireOk wire
  | .rxX28 _ wire => wireOk wire
  | .rxCustom _ wire => wireOk wire
  | .rxParam _ wire => wireOk wire
  | .rxPatchchg _ wire => wireOk wire
  | .rxX2E _ wire => wireOk wire
  | .rxAck _ wire => wireOk wire
  | .rxNak _ wire => wireOk wire
  | .rxUnrec cmd _ wire => (Machine.inCommand (Machine.wide cmd)).isNone && wireOk wire
  | .txStatusReq => true
  | .txNamesReq _ => true
  | .txAmpcabReq => true
  | .txCurnameReq => true
  | .txKeepalive => true
  | .txAck => true
  | .txHost cmd raw => hostFrameOk cmd raw
  | .txUpload _ => true
  | .txEnquiry => enquiryOk Machine.cfg.enquiryFrame

/-- The instruction is a value of its row. -/
abbrev WellFormed (i : Instr) : Prop :=
  i.wellFormed = true

end Sys2Proof
end

