-- ==== Sys2Proof/Decode.lean ====
section
/-! DEFINITION. From what stands at the block's interface to an instruction (spec/30_encoding.md R90 to R111, 43 R210, R212), and back:
`decode` is total and rejects by name, `encode` writes the item of an instruction from the same tables. -/

namespace Sys2Proof

open Machine

/-- R102, R212: the row of a received frame that FRAME.PARSE accepted and whose ids are the device's. -/
def inboundRow (cmd : Seven) (ch : Seven) (wire : Bytes) : Instr :=
  match inCommand (wide cmd) with
  | some .enqack1 => .rxEnqack1 ch wire
  | some .enqack2 => .rxEnqack2 ch wire
  | some .status => .rxStatus ch wire
  | some .ampcabReq => .rxAmpcabReq ch wire
  | some .ampcab => .rxAmpcab ch wire
  | some .x0A => .rxX0A ch wire
  | some .namesReq => .rxNamesReq ch wire
  | some .names => .rxNames ch wire
  | some .curnameReq => .rxCurnameReq ch wire
  | some .curname => .rxCurname ch wire
  | some .enddump => .rxEnddump ch wire
  | some .dump => .rxDump ch wire
  | some .expr => .rxExpr ch wire
  | some .x28 => .rxX28 ch wire
  | some .custom => .rxCustom ch wire
  | some .param => .rxParam ch wire
  | some .patchchg => .rxPatchchg ch wire
  | some .x2E => .rxX2E ch wire
  | some .ack => .rxAck ch wire
  | some .nak => .rxNak ch wire
  | none => .rxUnrec cmd ch wire

/-- R108, R210, R211: a wire message from the transport. What the front end drops is the row RX itself (log 22). -/
def decodeInbound (m : Bytes) : Instr :=
  match m with
  | [] => .rx m
  | b :: _ =>
    if b ≠ 0xF0 then .rxPassthru m
    else
      match frameParse cfg m with
      | .error _ => .rx m
      | .ok p => if forThisDevice cfg p then inboundRow (low7 p.commandCode) (low7 p.midiChannel) p.wire else .rx m

/-- R103, R104: a message as the block sends it; the channel byte is masked out by every row. -/
def decodeOutbound (m : Bytes) : Except DecodeError Instr :=
  match frameParse cfg m with
  | .ok p =>
    if forThisDevice cfg p then
      match unpack cfg p.wire with
      | .error _ => .error .notAnOutboundMessage
      | .ok raw =>
        match ownMessage cfg p.commandCode raw with
        | some i => .ok i
        | none => .ok (.txHost (low7 p.commandCode) raw)
    else if m = cfg.enquiryFrame then .ok .txEnquiry
    else .error .notAnOutboundMessage
  | .error _ => if m = cfg.enquiryFrame then .ok .txEnquiry else .error .notAnOutboundMessage

/-- R99, R101, R108: raw payload bytes that are exactly one varint, by the first byte alone; anything else is read by VARINT.DEC itself
(log 22). -/
def decodeVarint (bs : Bytes) : Instr :=
  match bs with
  | [] => .varintDec bs 0
  | b :: rest =>
    if is7 b then (if rest = [] then .varintV1 (low7 b) else .varintDec bs 0)
    else
      match (low7 b).toNat, rest with
      | 0, [] => .varintIllegal0
      | 1, [v] => .varintV2 v
      | 2, [v1, v0] => .varintV3 (v1 ++ v0)
      | 3, [v2, v1, v0] => .varintV4 (v2 ++ v1 ++ v0)
      | n, [] => if 4 ≤ n then .varintIllegalN (low7 b) else .varintDec bs 0
      | _, _ => .varintDec bs 0

/-- R94, R95: wire payload bytes that are exactly one well-formed group; anything else is read by UNPACK itself (log 22). -/
def decodeGroup (bs : Bytes) : Instr :=
  match bs with
  | [] => .unpack bs
  | h :: d => if all7 bs && groupOk (low7 h) (d.map low7) then .packgroup (low7 h) (d.map low7) else .unpack bs

/-- R110: a row selected by name, with its operands. -/
def decodeCall (name : Name) (args : List Arg) : Except DecodeError Instr :=
  match name, args with
  | .varintEnc, [.num v] => if v < 2 ^ 32 then .ok (.varintEnc (BitVec.ofNat 32 v)) else .error (.operandRange .varintEnc)
  | .varintDec, [.bytes buf, .num pos] => .ok (.varintDec buf pos)
  | .pack, [.bytes raw] => .ok (.pack raw)
  | .unpack, [.bytes wire] => .ok (.unpack wire)
  | .cksum, [.bytes bs] => .ok (.cksum bs)
  | .frameBuild, [.byte ch, .byte cmd, .bytes wire] => .ok (.frameBuild ch cmd wire)
  | .frameBuildP, [.byte ch, .byte cmd, .bytes raw] => .ok (.frameBuildP ch cmd raw)
  | .frameParse, [.bytes m] => .ok (.frameParse m)
  | .frameUnpack, [.bytes m] => .ok (.frameUnpack m)
  | .send, [.byte cmd, .bytes raw] => if is7 cmd then .ok (.send (low7 cmd) raw) else .error (.operandRange .send)
  | .fullResync, [] => .ok .fullResync
  | .rawOf, [.frame p] => .ok (.rawOf p)
  | .abort, [.error x] => .ok (.abort x)
  | .reset, [] => .ok .reset
  | .portOpen, [] => .ok .portOpen
  | .portClose, [] => .ok .portClose
  | .hostResync, [] => .ok .hostResync
  | .hostSend, [.byte cmd, .bytes raw] => .ok (.hostSend cmd raw)
  | .uploadStart, [.block b1, .block b2, .block b3, .block b4, .block b5, .block b6, .block b7, .block b8] =>
    .ok (.uploadStart b1 b2 b3 b4 b5 b6 b7 b8)
  | .wdTick, [] => .ok .wdTick
  | .rx, [.bytes m] => .ok (.rx m)
  | .txUpload, [.num p] =>
    if h : 1 ≤ p ∧ p ≤ 8 then .ok (.txUpload ⟨p - 1, by omega⟩) else .error (.operandRange .txUpload)
  | name, _ => .error (.operands name)

/-- The instruction that an item of the interface stands for. -/
def decode : Item → Except DecodeError Instr
  | .inbound m => .ok (decodeInbound m)
  | .outbound m => decodeOutbound m
  | .rawBytes bs => .ok (decodeVarint bs)
  | .wireBytes bs => .ok (decodeGroup bs)
  | .call name args => decodeCall name args

/-- R90: a received frame of the row of `k`. -/
def inboundItem (k : InCmd) (ch : Seven) (wire : Bytes) : Item :=
  .inbound (frameBytes cfg (wide ch) (wide (inCode k)) wire)

/-- R90, R98: a frame the block sends on channel `ch`. -/
def outboundItem (ch : Seven) (cmd : Seven) (raw : Bytes) : Item :=
  .outbound (frameBytes cfg (wide ch) (wide cmd) (pack cfg raw))

/-- The item of an instruction; `ch` is the channel byte of a frame the block sends, which no row of R103 fixes. -/
def encode (ch : Seven) : Instr → Item
  | .varintV1 v => .rawBytes (varintForm 0 v.toNat)
  | .varintV2 v => .rawBytes (varintForm 1 v.toNat)
  | .varintV3 v => .rawBytes (varintForm 2 v.toNat)
  | .varintV4 v => .rawBytes (varintForm 3 v.toNat)
  | .varintIllegal0 => .rawBytes [0x80]
  | .varintIllegalN n => .rawBytes [varintMarker n]
  | .packgroup flags data => .wireBytes (wide flags :: data.map wide)
  | .varintEnc value => .call .varintEnc [.num value.toNat]
  | .varintDec buf pos => .call .varintDec [.bytes buf, .num pos]
  | .pack raw => .call .pack [.bytes raw]
  | .unpack wire => .call .unpack [.bytes wire]
  | .cksum bs => .call .cksum [.bytes bs]
  | .frameBuild ch' cmd wire => .call .frameBuild [.byte ch', .byte cmd, .bytes wire]
  | .frameBuildP ch' cmd raw => .call .frameBuildP [.byte ch', .byte cmd, .bytes raw]
  | .frameParse m => .call .frameParse [.bytes m]
  | .frameUnpack m => .call .frameUnpack [.bytes m]
  | .send cmd raw => .call .send [.byte (wide cmd), .bytes raw]
  | .fullResync => .call .fullResync []
  | .rawOf p => .call .rawOf [.frame p]
  | .abort x => .call .abort [.error x]
  | .reset => .call .reset []
  | .portOpen => .call .portOpen []
  | .portClose => .call .portClose []
  | .hostResync => .call .hostResync []
  | .hostSend cmd raw => .call .hostSend [.byte cmd, .bytes raw]
  | .uploadStart b1 b2 b3 b4 b5 b6 b7 b8 =>
    .call .uploadStart [.block b1, .block b2, .block b3, .block b4, .block b5, .block b6, .block b7, .block b8]
  | .wdTick => .call .wdTick []
  | .rx m => .call .rx [.bytes m]
  | .rxPassthru m => .inbound m
  | .rxEnqack1 ch' wire => inboundItem .enqack1 ch' wire
  | .rxEnqack2 ch' wire => inboundItem .enqack2 ch' wire
  | .rxStatus ch' wire => inboundItem .status ch' wire
  | .rxAmpcabReq ch' wire => inboundItem .ampcabReq ch' wire
  | .rxAmpcab ch' wire => inboundItem .ampcab ch' wire
  | .rxX0A ch' wire => inboundItem .x0A ch' wire
  | .rxNamesReq ch' wire => inboundItem .namesReq ch' wire
  | .rxNames ch' wire => inboundItem .names ch' wire
  | .rxCurnameReq ch' wire => inboundItem .curnameReq ch' wire
  | .rxCurname ch' wire => inboundItem .curname ch' wire
  | .rxEnddump ch' wire => inboundItem .enddump ch' wire
  | .rxDump ch' wire => inboundItem .dump ch' wire
  | .rxExpr ch' wire => inboundItem .expr ch' wire
  | .rxX28 ch' wire => inboundItem .x28 ch' wire
  | .rxCustom ch' wire => inboundItem .custom ch' wire
  | .rxParam ch' wire => inboundItem .param ch' wire
  | .rxPatchchg ch' wire => inboundItem .patchchg ch' wire
  | .rxX2E ch' wire => inboundItem .x2E ch' wire
  | .rxAck ch' wire => inboundItem .ack ch' wire
  | .rxNak ch' wire => inboundItem .nak ch' wire
  | .rxUnrec cmd ch' wire => .inbound (frameBytes cfg (wide ch') (wide cmd) wire)
  | .txStatusReq => outboundItem ch 0x05 cfg.statusReqRaw
  | .txNamesReq bank => outboundItem ch 0x12 (namesReqRaw cfg bank)
  | .txAmpcabReq => outboundItem ch 0x07 cfg.ampcabReqRaw
  | .txCurnameReq => outboundItem ch 0x20 cfg.curnameReqRaw
  | .txKeepalive => outboundItem ch 0x76 cfg.keepaliveRaw
  | .txAck => outboundItem ch 0x7E ackRaw
  | .txHost cmd raw => outboundItem ch cmd raw
  | .txUpload block => .call .txUpload [.num (block.val + 1)]
  | .txEnquiry => .outbound cfg.enquiryFrame

/-- The `n` bytes a table word stands for: one number whose most significant byte is the first byte (log 17). -/
def tableBytes (nbits w : Nat) : Bytes :=
  bigEndian ((nbits + 7) / 8) w

/-- R101: a varint's bytes with the value bytes its marker counts, those the table gives no bits being 0. -/
def fillVarint (bs : Bytes) : Bytes :=
  match bs with
  | [] => []
  | b :: rest =>
    let n := (low7 b).toNat
    if is7 b ∨ n > 3 then bs else b :: rest ++ List.replicate (n - rest.length) 0

/-- R90: a frame's fixed head with the two bytes that follow an empty payload, its checksum and the end byte; a whole frame is left as it
is. -/
def fillFrame (bs : Bytes) : Bytes :=
  if 9 ≤ bs.length ∧ byteAt bs (bs.length - 1) = 0xF7 then bs else bs ++ [cksum (bs.drop cfg.cksumFirst), 0xF7]

/-- R102, R103: the raw payload that the row of an outbound command fixes, where no inbound row has that command. -/
def outboundOnlyRaw (cmd : Byte) : Option Bytes :=
  if cmd = 0x05 then some cfg.statusReqRaw
  else if cmd = 0x76 then some cfg.keepaliveRaw
  else none

/-- A frame head of a table word: the block's own message of that command where only it has the command, else a received frame (log 17). -/
def headItem (bs : Bytes) : Item :=
  match outboundOnlyRaw (byteAt bs 6) with
  | some raw => .outbound (fillFrame (bs ++ pack cfg raw))
  | none => .inbound (fillFrame bs)

/-- The item a word of spec/opcode_table.json stands for, by its length: a varint (up to four bytes), a packed group (eight bytes), the
RAW message TX.ENQUIRY (six bytes), the head of TX.ACK (nine bytes), or the head of a frame (log 17). -/
def tableItem (nbits w : Nat) : Item :=
  let bs := tableBytes nbits w
  if bs.length ≤ 4 then .rawBytes (fillVarint bs)
  else if bs.length = 6 then .outbound bs
  else if bs.length = 8 then .wireBytes bs
  else if bs.length = 7 then headItem bs
  else if bs.length = 9 ∧ byteAt bs 8 ≠ 0xF7 then .outbound (fillFrame bs)
  else .inbound (fillFrame bs)

/-- The instruction the decoder reads from a table word. -/
def decodeTableWord (nbits w : Nat) : Option Instr :=
  match decode (tableItem nbits w) with
  | .ok i => some i
  | .error _ => none

end Sys2Proof
end

