-- ==== Sys2Proof/Machine/State.lean ====
section
/-! DEFINITION. The state of the block (spec/10_state.md R20 to R29), its outputs (43 R200, 46 R292, R294), the reasons a step can stop, and
the state after reset (70 R350). -/

namespace Sys2Proof.Machine

/-- R25: "`currentPatch` is a record of `bank` (byte), `number` (byte) and `name`". -/
structure Patch where
  bank : Byte
  number : Byte
  name : Text
deriving DecidableEq, Repr

/-- R106: one entry of an amp or cab list, its index byte and its six characters. -/
structure NameEntry where
  index : Byte
  name : Text
deriving DecidableEq, Repr

/-- R292: the notifications to the UI collaborator. -/
inductive Notice where
  | connected
  | disconnected
  | patchNameChanged (name : Text)
  | patchNamesUpdated (bank : Byte) (names : List Text)
deriving DecidableEq, Repr

/-- R294: the whole interface to the decoder collaborator. -/
inductive Dispatch where
  | patchDump (raw : Bytes)
  | paramChange (sect parameter : Byte) (value : Nat)
  | ampCabNames (amps cabs : List NameEntry)
  | block (cmd : Byte) (wire : Bytes)
  | passThrough (m : Bytes)
deriving DecidableEq, Repr

/-- The `text` of a `Log` output, by what the rules log (R201, R205, R210, R250, R257); no rule reads a text (R327, log 20). -/
inductive LogText where
  | portNotOpen
  | emptyMessage
  | dropped (x : ErrorCode)
  | uploadRefused
  | sendRefused
deriving DecidableEq, Repr

/-- R200: the outputs of a step. -/
inductive Output where
  | tx (bytes : Bytes)
  | notify (n : Notice)
  | alert (cls : ErrorClass) (x : ErrorCode) (title text : String)
  | dispatch (d : Dispatch)
  | log (t : LogText)
deriving DecidableEq, Repr

/-- R11: what a codec operation returns to its caller, a value of one of the operations' result types, or an error. -/
inductive Result where
  | bytes (bs : Bytes)
  | byte (b : Byte)
  | cursorValue (pos value : Nat)
  | frame (p : ParsedFrame)
  | err (x : ErrorCode)
deriving DecidableEq, Repr

/-- The state: the registers of R20, the ordered output list (R35 (d)), and the model's own three fields. -/
structure State where
  /-- R21 -/
  portOpen : Bool
  /-- R22 -/
  connected : Bool
  /-- R23 -/
  resyncing : Bool
  /-- R24 -/
  uploadPhase : BitVec 4
  /-- R25 -/
  currentPatch : Patch
  /-- R26 -/
  userPatchNames : List Text
  /-- R27 -/
  channel : Seven
  /-- R28 -/
  biteCount : BitVec 3
  /-- R29 -/
  uploadBlocks : UploadBlocks
  /-- R35 (d), R72: everything emitted so far, in order (log 2) -/
  outputs : List Output
  /-- model's own: the environment's event queue, head first (R70, R71, log 1) -/
  pending : List Item
  /-- model's own: what the last codec operation returned (R11, log 3) -/
  returned : Option Result
  /-- model's own: how many free values have been drawn (log 11) -/
  freeCount : Nat
deriving DecidableEq, Repr

/-- R316: "The block has no fatal error, no halt state and no fault bit: every step returns a next state." No constructor: nothing
raises a fault, which is safe, since no statement can rest on one. -/
inductive Fault where
deriving DecidableEq, Repr

/-- Why a step gives no next state though the machine does not stop. -/
inductive Refusal where
  /-- Raised by `exec` for a row that has no meaning yet, by its mnemonic; safe. -/
  | notModelled (mnemonic : String)
  /-- Raised by `step` for a queued item that is no item of the block's interface (R110, R111, log 24); safe, the machine the spec
  describes is never handed one. -/
  | notAnItem (e : DecodeError)
deriving DecidableEq, Repr

/-- The outcome of one instruction or one step. -/
abbrev Outcome := Host.Outcome State Fault Refusal

/-- R20: one of the "8 empty pairs" (log 10). -/
def emptyBlock : Block :=
  ⟨0x00, []⟩

/-- R20: the reset content of `uploadBlocks`, "8 empty pairs; unspecified content" (log 10). -/
def emptyBlocks : UploadBlocks :=
  ⟨emptyBlock, emptyBlock, emptyBlock, emptyBlock, emptyBlock, emptyBlock, emptyBlock, emptyBlock⟩

/-- R38, R350: the machine right after reset. -/
def State.reset : State where
  portOpen := false
  connected := false
  resyncing := false
  uploadPhase := 0
  currentPatch := ⟨0x00, 0x00, []⟩
  userPatchNames := []
  channel := resetChannel cfg
  biteCount := 0
  uploadBlocks := emptyBlocks
  outputs := []
  pending := []
  returned := none
  freeCount := 0

end Sys2Proof.Machine
end

