-- ==== Sys2Proof/Machine/Ops.lean ====
section
/-! DEFINITION. The operations the session's handlers share: emitting an output, returning a codec result, feeding the watchdog, Send
(43 R201), FullResync (43 R202), and Abort (60 R317), the block's only trap entry. There is no return from it to model: "There is no
return-from-trap operation" and "Nothing is restored because nothing was saved" (60 R321). -/

namespace Sys2Proof.Machine

/-- R10: "`emit O` appends output `O` to the step's ordered output list". -/
def State.emit (s : State) (o : Output) : State :=
  { s with outputs := s.outputs ++ [o] }

/-- R11: a codec operation hands its result to its caller and changes no register (R36, log 3). -/
def State.give (s : State) (r : Result) : State :=
  { s with returned := some r }

/-- R271: "`S.biteCount <- 0`". -/
def State.feed (s : State) : State :=
  { s with biteCount := 0 }

/-- R11: the result of an operation that answers bytes or an error. -/
def bytesResult : Except ErrorCode Bytes → Result
  | .ok bs => .bytes bs
  | .error x => .err x

/-- R11: the result of VARINT.DEC. -/
def cursorResult : Except ErrorCode (Nat × Nat) → Result
  | .ok (pos, value) => .cursorValue pos value
  | .error x => .err x

/-- R11: the result of FRAME.PARSE. -/
def frameResult : Except ErrorCode ParsedFrame → Result
  | .ok p => .frame p
  | .error x => .err x

/-- R201: Send, "the procedure by which every `GNXF` frame leaves the block". The error arm is never taken (log 28). -/
def send (c : Cfg) (cmd : Seven) (raw : Bytes) (s : State) : State :=
  if s.portOpen then
    match frameBuildP c (wide s.channel) (wide cmd) raw with
    | .ok m => s.emit (.tx m)
    | .error x => s.emit (.log (.dropped x))
  else s.emit (.log .portNotOpen)

/-- R202: the enquiry leaves the block as it is. -/
def sendEnquiry (c : Cfg) (s : State) : State :=
  s.emit (.tx c.enquiryFrame)

/-- R202, R204: "if S.connected = 1 then emit Notify(Disconnected)". -/
def noticeDisconnect (s : State) : State :=
  if s.connected then s.emit (.notify .disconnected) else s

/-- R202: FullResync. -/
def fullResync (c : Cfg) (s : State) : State :=
  sendEnquiry c
    { noticeDisconnect s with connected := false, resyncing := true, uploadPhase := 0, biteCount := 0 }

/-- R317: Abort, with the alert triple of R292. -/
def abort (c : Cfg) (x : ErrorCode) (s : State) : State :=
  State.emit { s with resyncing := false, uploadPhase := 0 }
    (.alert .protocolViolation x (c.alertTitle x) (c.alertText x))

/-- R318: "A `raise X` inside a session handler ends the handler and runs `Abort(X)`"; otherwise the handler goes on with the value. -/
def orAbort {α : Type} (c : Cfg) (r : Except ErrorCode α) (s : State) (go : α → State) : State :=
  match r with
  | .error x => abort c x s
  | .ok a => go a

/-- R103, R213. -/
def txStatusReq (c : Cfg) (s : State) : State :=
  send c 0x05 c.statusReqRaw s

/-- R103, R215, R216. -/
def txNamesReq (c : Cfg) (bank : Bank) (s : State) : State :=
  send c 0x12 (namesReqRaw c bank) s

/-- R103, R216. -/
def txAmpcabReq (c : Cfg) (s : State) : State :=
  send c 0x07 c.ampcabReqRaw s

/-- R103, R217, R222. -/
def txCurnameReq (c : Cfg) (s : State) : State :=
  send c 0x20 c.curnameReqRaw s

/-- R272. -/
def txKeepalive (c : Cfg) (s : State) : State :=
  send c 0x76 c.keepaliveRaw s

/-- R218. -/
def txAck (c : Cfg) (s : State) : State :=
  send c 0x7E ackRaw s

/-- R29: block number `i + 1` of the register. -/
def blockOf (b : UploadBlocks) : Fin 8 → Block
  | 0 => b.b1
  | 1 => b.b2
  | 2 => b.b3
  | 3 => b.b4
  | 4 => b.b5
  | 5 => b.b6
  | 6 => b.b7
  | 7 => b.b8

/-- R103, R250, R252: block `i + 1` of `uploadBlocks` is sent. -/
def txUpload (c : Cfg) (i : Fin 8) (s : State) : State :=
  send c (blockOf s.uploadBlocks i).cmd (blockOf s.uploadBlocks i).raw s

end Sys2Proof.Machine
end

