-- ==== Sys2Proof/Machine/Flags.lean ====
section
/-! DEFINITION. The two status flags and what is read off them (spec/10_state.md R31, R33): the named states, the condition under which an
upload may start (spec/44_session_upload.md R250), and the phases in which one is in progress (R251). The block has no arithmetic condition codes. -/

namespace Sys2Proof.Machine

/-- R31: the five named states of the document; a label is no register and no rule reads one. -/
inductive Label where
  | disconnected
  | enquiring
  | syncing
  | connectedIdle
  | uploading
deriving DecidableEq, Repr

/-- R31: the table's conditions in its order, first match wins. -/
def label (s : State) : Label :=
  if s.portOpen = false then .disconnected
  else if s.connected = false ∧ s.resyncing = true then .enquiring
  else if s.connected = false ∧ s.resyncing = false then .disconnected
  else if s.uploadPhase ≠ 0 then .uploading
  else if s.resyncing = true then .syncing
  else .connectedIdle

/-- R250: the port open, connected, no resync and no upload in progress. -/
def uploadMayStart (s : State) : Bool :=
  s.portOpen && s.connected && !s.resyncing && s.uploadPhase == 0

/-- R251, R351: an upload is in progress, and `uploadBlocks` holds its blocks; "the only rule that reads it" does so "only when `uploadPhase`
is 1 to 7". -/
abbrev uploadRuns (s : State) : Prop :=
  1 ≤ s.uploadPhase.toNat ∧ s.uploadPhase.toNat ≤ 7

end Sys2Proof.Machine
end

