-- ==== Sys2Proof/Machine/Operands.lean ====
section
/-! DEFINITION. How a handler reads its operands from the frame (43 R206) and the payload layouts of spec/30_encoding.md R105 to R107; the
layouts that the spec leaves OPEN are the functions of `Cfg`. -/

namespace Sys2Proof.Machine

/-- R206: RawOf. -/
def rawOf (c : Cfg) (p : ParsedFrame) : Except ErrorCode Bytes :=
  match unpack c p.wire with
  | .ok raw => .ok raw
  | .error _ => .error (.payloadMalformed p.commandCode)

/-- R215, R216, R218, R222: "if r = none then raise PayloadMalformed", after the payload has been unpacked. -/
def openOperand {α : Type} (c : Cfg) (parse : Bytes → Option α) (p : ParsedFrame) : Except ErrorCode α :=
  match rawOf c p with
  | .error x => .error x
  | .ok raw =>
    match parse raw with
    | none => .error (.payloadMalformed p.commandCode)
    | some a => .ok a

/-- R105, R221: section, parameter and value of a parameter change. -/
def paramOperands (c : Cfg) (p : ParsedFrame) : Except ErrorCode (Byte × Byte × Nat) :=
  match rawOf c p with
  | .error x => .error x
  | .ok raw =>
    if raw.length < 2 then .error (.payloadMalformed p.commandCode)
    else
      match varintDec raw 2 with
      | .error _ => .error (.payloadMalformed p.commandCode)
      | .ok (_, value) => .ok (byteAt raw 0, byteAt raw 1, value)

/-- R106: the `count` entries of eight bytes that begin at `pos`. -/
def nameEntries (raw : Bytes) (pos count : Nat) : List NameEntry :=
  (List.range count).map fun i => ⟨byteAt raw (pos + 8 * i), slice raw (pos + 8 * i + 1) (pos + 8 * i + 7)⟩

/-- R217: one count-prefixed list at `pos`, with the cursor after it. -/
def nameList (x : ErrorCode) (raw : Bytes) (pos : Nat) : Except ErrorCode (List NameEntry × Nat) :=
  if pos ≥ raw.length then .error x
  else
    let count := (byteAt raw pos).toNat
    if pos + 1 + 8 * count > raw.length then .error x
    else .ok (nameEntries raw (pos + 1) count, pos + 1 + 8 * count)

/-- R106, R217: the amp list and then the cab list; bytes after them are ignored. -/
def ampCabOperands (c : Cfg) (p : ParsedFrame) : Except ErrorCode (List NameEntry × List NameEntry) :=
  match rawOf c p with
  | .error x => .error x
  | .ok raw =>
    match nameList (.payloadMalformed p.commandCode) raw 0 with
    | .error x => .error x
    | .ok (amps, pos) =>
      match nameList (.payloadMalformed p.commandCode) raw pos with
      | .error x => .error x
      | .ok (cabs, _) => .ok (amps, cabs)

/-- R107, R252: the subcode of an acknowledgement. -/
def ackOperand (c : Cfg) (p : ParsedFrame) : Except ErrorCode Byte :=
  match rawOf c p with
  | .error x => .error x
  | .ok raw => if raw.length < 1 then .error (.payloadMalformed p.commandCode) else .ok (byteAt raw 0)

/-- R250: the register's block of a host block whose command code is a 7-bit value. -/
def latch (b : HostBlock) : Block :=
  ⟨low7 b.cmd, b.raw⟩

/-- R250: no block's command code has bit 7 set. -/
def hostBlocksOk (bs : List HostBlock) : Bool :=
  bs.all fun b => is7 b.cmd

end Sys2Proof.Machine
end

