-- ==== Sys2Proof/Machine/CodecRows.lean ====
section
/-! DEFINITION. The meanings of the codec rows: the VARINT formats and the packed group (log 5, log 6), and the codec operations of
spec/40_varint.md, 41_nibble_packer.md and 42_sysex_frame.md. None reads or writes a register (10 R36, 60 R313). -/

namespace Sys2Proof.Machine

/-- R99, R132: VARINT.V1, read at the start of its own bytes. -/
def execVarintV1 (v : BitVec 7) (s : State) : Outcome :=
  .next (s.give (cursorResult (varintDec (varintForm 0 v.toNat) 0)))

/-- R99, R132: VARINT.V2. -/
def execVarintV2 (v : BitVec 8) (s : State) : Outcome :=
  .next (s.give (cursorResult (varintDec (varintForm 1 v.toNat) 0)))

/-- R99, R132: VARINT.V3. -/
def execVarintV3 (v : BitVec 16) (s : State) : Outcome :=
  .next (s.give (cursorResult (varintDec (varintForm 2 v.toNat) 0)))

/-- R99, R132: VARINT.V4. -/
def execVarintV4 (v : BitVec 24) (s : State) : Outcome :=
  .next (s.give (cursorResult (varintDec (varintForm 3 v.toNat) 0)))

/-- R108, R132: VARINT.ILLEGAL0, a marker with count 0. -/
def execVarintIllegal0 (s : State) : Outcome :=
  .next (s.give (cursorResult (varintDec [0x80] 0)))

/-- R108, R132: VARINT.ILLEGALN, a marker with a count above 3. -/
def execVarintIllegalN (n : BitVec 7) (s : State) : Outcome :=
  .next (s.give (cursorResult (varintDec [varintMarker n] 0)))

/-- R94, R153: PACKGROUP, a wire payload of one group. -/
def execPackgroup (flags : BitVec 7) (data : List Seven) (s : State) : Outcome :=
  .next (s.give (bytesResult (unpack cfg (wide flags :: data.map wide))))

/-- R131: VARINT.ENC. -/
def execVarintEnc (value : BitVec 32) (s : State) : Outcome :=
  .next (s.give (bytesResult (varintEnc cfg value)))

/-- R132: VARINT.DEC. -/
def execVarintDec (buf : Bytes) (pos : Nat) (s : State) : Outcome :=
  .next (s.give (cursorResult (varintDec buf pos)))

/-- R150: PACK. -/
def execPack (raw : Bytes) (s : State) : Outcome :=
  .next (s.give (.bytes (pack cfg raw)))

/-- R153: UNPACK. -/
def execUnpack (wire : Bytes) (s : State) : Outcome :=
  .next (s.give (bytesResult (unpack cfg wire)))

/-- R171: CKSUM. -/
def execCksum (bytes : Bytes) (s : State) : Outcome :=
  .next (s.give (.byte (cksum bytes)))

/-- R172: FRAME.BUILD. -/
def execFrameBuild (ch cmd : Byte) (wire : Bytes) (s : State) : Outcome :=
  .next (s.give (bytesResult (frameBuild cfg ch cmd wire)))

/-- R173: FRAME.BUILDP. -/
def execFrameBuildP (ch cmd : Byte) (raw : Bytes) (s : State) : Outcome :=
  .next (s.give (bytesResult (frameBuildP cfg ch cmd raw)))

/-- R175: FRAME.PARSE. -/
def execFrameParse (m : Bytes) (s : State) : Outcome :=
  .next (s.give (frameResult (frameParse cfg m)))

/-- R176: FRAME.UNPACK. -/
def execFrameUnpack (m : Bytes) (s : State) : Outcome :=
  .next (s.give (bytesResult (frameUnpack cfg m)))

end Sys2Proof.Machine
end

