-- ==== Sys2Proof/Machine/Outbound.lean ====
section
/-! DEFINITION. The outbound rows of spec/30_encoding.md R103 and R104: the block sends that message (log 8). -/

namespace Sys2Proof.Machine

/-- R103, R213. -/
def execTxStatusReq (s : State) : Outcome :=
  .next (txStatusReq cfg s)

/-- R103, R215, R216. -/
def execTxNamesReq (bank : Bank) (s : State) : Outcome :=
  .next (txNamesReq cfg bank s)

/-- R103, R216. -/
def execTxAmpcabReq (s : State) : Outcome :=
  .next (txAmpcabReq cfg s)

/-- R103, R217. -/
def execTxCurnameReq (s : State) : Outcome :=
  .next (txCurnameReq cfg s)

/-- R103, R272. -/
def execTxKeepalive (s : State) : Outcome :=
  .next (txKeepalive cfg s)

/-- R103, R218. -/
def execTxAck (s : State) : Outcome :=
  .next (txAck cfg s)

/-- R103, R257: a frame "given by the UI". -/
def execTxHost (cmd : Seven) (raw : Bytes) (s : State) : Outcome :=
  .next (send cfg cmd raw s)

/-- R103: a block of `uploadBlocks`. Outside phases 1 to 7 the register's content is unspecified and no rule reads it (R29, R351), so the row
reads nothing and leaves the state as it is (DESIGN CHOICE, log 32). In those phases the row run alone sends whichever block its operand
numbers and leaves `uploadPhase`: it does not wait for the acknowledgement that R252 and R354 put before each block, so it can send a block out
of turn or again (DESIGN CHOICE, log 32). The sends of UPLOAD.START and RX.ACK keep that gate. -/
def execTxUpload (block : Fin 8) (s : State) : Outcome :=
  .next (if uploadRuns s then txUpload cfg block s else s)

/-- R104, R202: the enquiry, which is not in the `GNXF` format and so is not sent by Send (log 8). -/
def execTxEnquiry (s : State) : Outcome :=
  .next (sendEnquiry cfg s)

end Sys2Proof.Machine
end

