-- ==== Sys2Proof/Machine/Ports.lean ====
section
/-! DEFINITION. RESET (spec/70_reset_and_hazards.md R350) and the port and host events (spec/43_session_handshake.md R203 to R205,
44_session_upload.md R257). Each event is a function of the configuration, and its row's meaning runs it under the machine's. -/

namespace Sys2Proof.Machine

/-- R350: RESET. The registers take their reset values and `uploadBlocks` an unspecified one (log 11); nothing is emitted. -/
def resetSession (c : Cfg) (s : State) : State :=
  { s with
    portOpen := false
    connected := false
    resyncing := false
    uploadPhase := 0
    biteCount := 0
    currentPatch := ⟨0x00, 0x00, []⟩
    userPatchNames := []
    channel := resetChannel c
    uploadBlocks := c.freeBlocks s.freeCount
    freeCount := s.freeCount + 1 }

/-- R203: PORT.OPEN. -/
def openPort (c : Cfg) (s : State) : State :=
  fullResync c { s with portOpen := true }

/-- R204: PORT.CLOSE. -/
def closePort (s : State) : State :=
  { noticeDisconnect s with
    portOpen := false
    connected := false
    resyncing := false
    uploadPhase := 0
    biteCount := 0 }

/-- R205: HOST.RESYNC. -/
def hostResync (c : Cfg) (s : State) : State :=
  if s.portOpen then fullResync c s else s.emit (.log .portNotOpen)

/-- R257: HOST.SEND. -/
def hostSend (c : Cfg) (cmd : Byte) (raw : Bytes) (s : State) : State :=
  if is7 cmd then send c (low7 cmd) raw s else s.emit (.log .sendRefused)

/-- R350. -/
def execReset (s : State) : Outcome :=
  .next (resetSession cfg s)

/-- R203. -/
def execPortOpen (s : State) : Outcome :=
  .next (openPort cfg s)

/-- R204. -/
def execPortClose (s : State) : Outcome :=
  .next (closePort s)

/-- R205. -/
def execHostResync (s : State) : Outcome :=
  .next (hostResync cfg s)

/-- R257. -/
def execHostSend (cmd : Byte) (raw : Bytes) (s : State) : Outcome :=
  .next (hostSend cfg cmd raw s)

end Sys2Proof.Machine
end

