-- ==== Sys2Proof/Machine/Procedures.lean ====
section
/-! DEFINITION. The meanings of the procedure rows (spec/30_encoding.md R111): Send, FullResync, RawOf, Abort, called alone. -/

namespace Sys2Proof.Machine

/-- R201: Send. -/
def execSend (cmd : Seven) (raw : Bytes) (s : State) : Outcome :=
  .next (send cfg cmd raw s)

/-- R202: FullResync, its pseudocode in every state (log 9). -/
def execFullResync (s : State) : Outcome :=
  .next (fullResync cfg s)

/-- R206: RawOf; called alone it answers the error to its caller (log 29). -/
def execRawOf (p : ParsedFrame) (s : State) : Outcome :=
  .next (s.give (bytesResult (rawOf cfg p)))

/-- R317: Abort. -/
def execAbort (x : ErrorCode) (s : State) : Outcome :=
  .next (abort cfg x s)

end Sys2Proof.Machine
end

