-- ==== Sys2Proof/Machine/Handshake.lean ====
section
/-! DEFINITION. The handlers of a received frame that take part in the handshake (spec/43_session_handshake.md R213 to R220). A handler runs
with the port open and the watchdog fed (R210); it reads its operands before its first register write (R318). -/

namespace Sys2Proof.Machine

/-- R213: the effect of an enquiry acknowledgement. -/
def enquiryAnswered (c : Cfg) (p : ParsedFrame) (s : State) : State :=
  let adopted := { s with channel := if c.channelLock = none then low7 p.midiChannel else s.channel }
  let noticed := if adopted.connected then adopted else adopted.emit (.notify .connected)
  txStatusReq c { noticed with connected := true }

/-- R213: RX.ENQACK1. -/
def handleEnqack1 (c : Cfg) (p : ParsedFrame) (s : State) : State :=
  enquiryAnswered c p s

/-- R214: RX.ENQACK2 "has exactly the effect of RX.ENQACK1". -/
def handleEnqack2 (c : Cfg) (p : ParsedFrame) (s : State) : State :=
  enquiryAnswered c p s

/-- R215: RX.STATUS. -/
def handleStatus (c : Cfg) (p : ParsedFrame) (s : State) : State :=
  orAbort c (openOperand c c.parseStatus p) s fun (bank, number) =>
    let s := { s with currentPatch := { s.currentPatch with bank := bank, number := number } }
    if s.resyncing then txNamesReq c .factory s else s

/-- R216: RX.NAMES. -/
def handleNames (c : Cfg) (p : ParsedFrame) (s : State) : State :=
  orAbort c (openOperand c c.parseNames p) s fun (bank, names) =>
    let s := { s with userPatchNames := if bank = 0x01 then names else s.userPatchNames }
    let s := s.emit (.notify (.patchNamesUpdated bank names))
    if s.resyncing then
      if bank = 0x00 then txNamesReq c .user s else txAmpcabReq c s
    else s

/-- R217: RX.AMPCAB. -/
def handleAmpcab (c : Cfg) (p : ParsedFrame) (s : State) : State :=
  orAbort c (ampCabOperands c p) s fun (amps, cabs) =>
    let s := s.emit (.dispatch (.ampCabNames amps cabs))
    if s.resyncing then txCurnameReq c s else s

/-- R218: RX.CURNAME. -/
def handleCurname (c : Cfg) (p : ParsedFrame) (s : State) : State :=
  orAbort c (openOperand c c.parsePatchName p) s fun name =>
    let s := { s with currentPatch := { s.currentPatch with name := name } }
    let s := s.emit (.notify (.patchNameChanged name))
    if s.resyncing then txAck c s else s

/-- R219: RX.DUMP; the dispatch "precedes the verdict" and stays emitted (R318). -/
def handleDump (c : Cfg) (p : ParsedFrame) (s : State) : State :=
  orAbort c (rawOf c p) s fun raw =>
    let s := s.emit (.dispatch (.patchDump raw))
    match c.patchDumpWalk raw with
    | .ok => s
    | .patternMismatch => abort c .patternMismatch s

/-- R220: RX.ENDDUMP; "The payload is not read." -/
def handleEnddump (_c : Cfg) (_p : ParsedFrame) (s : State) : State :=
  { s with resyncing := false }

end Sys2Proof.Machine
end

