-- ==== Sys2Proof/Machine/Unsolicited.lean ====
section
/-! DEFINITION. The handlers of unsolicited messages, error commands and recognised commands with no transition
(spec/43_session_handshake.md R221 to R232). -/

namespace Sys2Proof.Machine

/-- R221: what RX.PARAM does with its operands; section `0x0E` is not dispatched. -/
def dispatchParam (c : Cfg) (p : ParsedFrame) (s : State) : State :=
  orAbort c (paramOperands c p) s fun (sect, parameter, value) =>
    if sect ≠ 0x0E then s.emit (.dispatch (.paramChange sect parameter value)) else s

/-- R221: RX.PARAM; with `connected = 1` the keep-alive is sent in every case, also after an abort. -/
def handleParam (c : Cfg) (p : ParsedFrame) (s : State) : State :=
  if s.connected then txKeepalive c (dispatchParam c p s) else s

/-- R222: RX.PATCHCHG. -/
def handlePatchchg (c : Cfg) (p : ParsedFrame) (s : State) : State :=
  orAbort c (openOperand c c.parsePatchChange p) s fun (bank, number) =>
    txCurnameReq c
      { s with currentPatch := { s.currentPatch with bank := bank, number := number }, resyncing := true }

/-- R223: RX.NAK; "The payload is not read." -/
def handleNak (c : Cfg) (_p : ParsedFrame) (s : State) : State :=
  abort c .deviceReportedChecksumError s

/-- R224: RX.UNREC. -/
def handleUnrec (c : Cfg) (p : ParsedFrame) (s : State) : State :=
  abort c (.unrecognizedCommand p.commandCode) s

/-- R225: a recognised command with no stated transition is handed to the decoder collaborator with its wire payload. -/
def forwardBlock (cmd : Byte) (p : ParsedFrame) (s : State) : State :=
  s.emit (.dispatch (.block cmd p.wire))

/-- R225: RX.AMPCABREQ. -/
def handleAmpcabReq (_c : Cfg) (p : ParsedFrame) (s : State) : State :=
  forwardBlock 0x07 p s

/-- R226: RX.NAMESREQ. -/
def handleNamesReq (_c : Cfg) (p : ParsedFrame) (s : State) : State :=
  forwardBlock 0x12 p s

/-- R227: RX.CURNAMEREQ. -/
def handleCurnameReq (_c : Cfg) (p : ParsedFrame) (s : State) : State :=
  forwardBlock 0x20 p s

/-- R228: RX.X0A. -/
def handleX0A (_c : Cfg) (p : ParsedFrame) (s : State) : State :=
  forwardBlock 0x0A p s

/-- R229: RX.EXPR. -/
def handleExpr (_c : Cfg) (p : ParsedFrame) (s : State) : State :=
  forwardBlock 0x26 p s

/-- R230: RX.X28. -/
def handleX28 (_c : Cfg) (p : ParsedFrame) (s : State) : State :=
  forwardBlock 0x28 p s

/-- R231: RX.CUSTOM. -/
def handleCustom (_c : Cfg) (p : ParsedFrame) (s : State) : State :=
  forwardBlock 0x2A p s

/-- R232: RX.X2E. -/
def handleX2E (_c : Cfg) (p : ParsedFrame) (s : State) : State :=
  forwardBlock 0x2E p s

end Sys2Proof.Machine
end

