-- ==== Sys2Proof/Machine/Upload.lean ====
section
/-! DEFINITION. The upload transaction (spec/44_session_upload.md): UPLOAD.START, the acknowledgement handler, and the rows' meanings that
belong to it. -/

namespace Sys2Proof.Machine

/-- R250: UPLOAD.START, with the eight blocks in order. -/
def uploadStart (c : Cfg) (b1 b2 b3 b4 b5 b6 b7 b8 : HostBlock) (s : State) : State :=
  if uploadMayStart s && hostBlocksOk [b1, b2, b3, b4, b5, b6, b7, b8] then
    let s := { s with
      uploadBlocks := ⟨latch b1, latch b2, latch b3, latch b4, latch b5, latch b6, latch b7, latch b8⟩ }
    { txUpload c 0 s with uploadPhase := 1 }
  else s.emit (.log .uploadRefused)

/-- R252, R253: the next block, `ph + 1`, is sent; after block 8 the phase returns to 0. -/
def uploadAdvance (c : Cfg) (ph : Nat) (s : State) : State :=
  { txUpload c (Fin.ofNat 8 ph) s with uploadPhase := if ph = 7 then 0 else BitVec.ofNat 4 (ph + 1) }

/-- R252: RX.ACK; an acknowledgement that is not the one awaited is inert. -/
def handleAck (c : Cfg) (p : ParsedFrame) (s : State) : State :=
  orAbort c (ackOperand c p) s fun sub =>
    if uploadRuns s ∧ awaitedSubcode c s.uploadPhase.toNat = some sub then
      uploadAdvance c s.uploadPhase.toNat s
    else s

/-- R250. -/
def execUploadStart (b1 b2 b3 b4 b5 b6 b7 b8 : HostBlock) (s : State) : Outcome :=
  .next (uploadStart cfg b1 b2 b3 b4 b5 b6 b7 b8 s)

end Sys2Proof.Machine
end

