-- ==== Sys2Proof/Machine/Receive.lean ====
section
/-! DEFINITION. The receive path (spec/43_session_handshake.md R210 to R212): the RX event, the non-SysEx branch, the dispatch by command
byte, and the row of every received frame. A row of a received frame is the arrival of that frame: the front end's port test and the feeding
of the watchdog, then the handler (log 7). -/

namespace Sys2Proof.Machine

/-- R211: RX of a non-SysEx message. -/
def rxNonSysex (m : Bytes) (s : State) : State :=
  s.feed.emit (.dispatch (.passThrough m))

/-- R212: "The handler is selected by `p.commandCode` alone". -/
def handle (c : Cfg) (p : ParsedFrame) (s : State) : State :=
  match inCommand p.commandCode with
  | some .enqack1 => handleEnqack1 c p s
  | some .enqack2 => handleEnqack2 c p s
  | some .status => handleStatus c p s
  | some .ampcabReq => handleAmpcabReq c p s
  | some .ampcab => handleAmpcab c p s
  | some .x0A => handleX0A c p s
  | some .namesReq => handleNamesReq c p s
  | some .names => handleNames c p s
  | some .curnameReq => handleCurnameReq c p s
  | some .curname => handleCurname c p s
  | some .enddump => handleEnddump c p s
  | some .dump => handleDump c p s
  | some .expr => handleExpr c p s
  | some .x28 => handleX28 c p s
  | some .custom => handleCustom c p s
  | some .param => handleParam c p s
  | some .patchchg => handlePatchchg c p s
  | some .x2E => handleX2E c p s
  | some .ack => handleAck c p s
  | some .nak => handleNak c p s
  | none => handleUnrec c p s

/-- R210: the RX front end, tests in the rule's order. -/
def rx (c : Cfg) (m : Bytes) (s : State) : State :=
  if s.portOpen then
    match m with
    | [] => s.emit (.log .emptyMessage)
    | b :: _ =>
      if b ≠ 0xF0 then rxNonSysex m s
      else
        match frameParse c m with
        | .error x => s.emit (.log (.dropped x))
        | .ok p => if forThisDevice c p then handle c p s.feed else s.emit (.log (.dropped .notForThisDevice))
  else s

/-- R210: a frame that the front end has accepted reaches the handler `h` with the watchdog fed; a closed port delivers nothing. -/
def onFrame (c : Cfg) (cmd : Seven) (h : Cfg → ParsedFrame → State → State) (ch : Seven) (wire : Bytes) (s : State) :
    State :=
  if s.portOpen then h c (parsedOf c cmd ch wire) s.feed else s

/-- R210: RX. -/
def execRx (m : Bytes) (s : State) : Outcome :=
  .next (rx cfg m s)

/-- R211: RX.PASSTHRU; the port test is the front end's. -/
def execRxPassthru (m : Bytes) (s : State) : Outcome :=
  .next (if s.portOpen then rxNonSysex m s else s)

/-- R213. -/
def execRxEnqack1 (ch : Seven) (wire : Bytes) (s : State) : Outcome :=
  .next (onFrame cfg 0x01 handleEnqack1 ch wire s)

/-- R214. -/
def execRxEnqack2 (ch : Seven) (wire : Bytes) (s : State) : Outcome :=
  .next (onFrame cfg 0x02 handleEnqack2 ch wire s)

/-- R215. -/
def execRxStatus (ch : Seven) (wire : Bytes) (s : State) : Outcome :=
  .next (onFrame cfg 0x06 handleStatus ch wire s)

/-- R225. -/
def execRxAmpcabReq (ch : Seven) (wire : Bytes) (s : State) : Outcome :=
  .next (onFrame cfg 0x07 handleAmpcabReq ch wire s)

/-- R217. -/
def execRxAmpcab (ch : Seven) (wire : Bytes) (s : State) : Outcome :=
  .next (onFrame cfg 0x08 handleAmpcab ch wire s)

/-- R228. -/
def execRxX0A (ch : Seven) (wire : Bytes) (s : State) : Outcome :=
  .next (onFrame cfg 0x0A handleX0A ch wire s)

/-- R226. -/
def execRxNamesReq (ch : Seven) (wire : Bytes) (s : State) : Outcome :=
  .next (onFrame cfg 0x12 handleNamesReq ch wire s)

/-- R216. -/
def execRxNames (ch : Seven) (wire : Bytes) (s : State) : Outcome :=
  .next (onFrame cfg 0x13 handleNames ch wire s)

/-- R227. -/
def execRxCurnameReq (ch : Seven) (wire : Bytes) (s : State) : Outcome :=
  .next (onFrame cfg 0x20 handleCurnameReq ch wire s)

/-- R218. -/
def execRxCurname (ch : Seven) (wire : Bytes) (s : State) : Outcome :=
  .next (onFrame cfg 0x21 handleCurname ch wire s)

/-- R220. -/
def execRxEnddump (ch : Seven) (wire : Bytes) (s : State) : Outcome :=
  .next (onFrame cfg 0x22 handleEnddump ch wire s)

/-- R219. -/
def execRxDump (ch : Seven) (wire : Bytes) (s : State) : Outcome :=
  .next (onFrame cfg 0x24 handleDump ch wire s)

/-- R229. -/
def execRxExpr (ch : Seven) (wire : Bytes) (s : State) : Outcome :=
  .next (onFrame cfg 0x26 handleExpr ch wire s)

/-- R230. -/
def execRxX28 (ch : Seven) (wire : Bytes) (s : State) : Outcome :=
  .next (onFrame cfg 0x28 handleX28 ch wire s)

/-- R231. -/
def execRxCustom (ch : Seven) (wire : Bytes) (s : State) : Outcome :=
  .next (onFrame cfg 0x2A handleCustom ch wire s)

/-- R221. -/
def execRxParam (ch : Seven) (wire : Bytes) (s : State) : Outcome :=
  .next (onFrame cfg 0x2C handleParam ch wire s)

/-- R222. -/
def execRxPatchchg (ch : Seven) (wire : Bytes) (s : State) : Outcome :=
  .next (onFrame cfg 0x2D handlePatchchg ch wire s)

/-- R232. -/
def execRxX2E (ch : Seven) (wire : Bytes) (s : State) : Outcome :=
  .next (onFrame cfg 0x2E handleX2E ch wire s)

/-- R252. -/
def execRxAck (ch : Seven) (wire : Bytes) (s : State) : Outcome :=
  .next (onFrame cfg 0x7E handleAck ch wire s)

/-- R223. -/
def execRxNak (ch : Seven) (wire : Bytes) (s : State) : Outcome :=
  .next (onFrame cfg 0x7F handleNak ch wire s)

/-- R224. -/
def execRxUnrec (cmd : Seven) (ch : Seven) (wire : Bytes) (s : State) : Outcome :=
  .next (onFrame cfg cmd handleUnrec ch wire s)

end Sys2Proof.Machine
end

