-- ==== Sys2Proof/Machine/Watchdog.lean ====
section
/-! DEFINITION. The watchdog (spec/45_watchdog.md). -/

namespace Sys2Proof.Machine

/-- R270: WD.TICK. The sum is taken exactly before it is compared with the limit (log 15). -/
def wdTick (c : Cfg) (s : State) : State :=
  if s.portOpen then
    if s.biteCount.toNat + 1 ≥ c.wdLimit then fullResync c s
    else txKeepalive c { s with biteCount := BitVec.ofNat 3 (s.biteCount.toNat + 1) }
  else s

/-- R270. -/
def execWdTick (s : State) : Outcome :=
  .next (wdTick cfg s)

end Sys2Proof.Machine
end

