-- ==== Sys2Proof/Machine/Dispatch.lean ====
section
/-! DEFINITION. Which meaning each instruction has, one arm per constructor. -/

namespace Sys2Proof.Machine

def exec (i : Instr) (s : State) : Host.Outcome State Fault Refusal :=
  match i with
  | .varintV1 v => Sys2Proof.Machine.execVarintV1 v s
  | .varintV2 v => Sys2Proof.Machine.execVarintV2 v s
  | .varintV3 v => Sys2Proof.Machine.execVarintV3 v s
  | .varintV4 v => Sys2Proof.Machine.execVarintV4 v s
  | .varintIllegal0 => Sys2Proof.Machine.execVarintIllegal0 s
  | .varintIllegalN n => Sys2Proof.Machine.execVarintIllegalN n s
  | .packgroup flags data => Sys2Proof.Machine.execPackgroup flags data s
  | .varintEnc value => Sys2Proof.Machine.execVarintEnc value s
  | .varintDec buf pos => Sys2Proof.Machine.execVarintDec buf pos s
  | .pack raw => Sys2Proof.Machine.execPack raw s
  | .unpack wire => Sys2Proof.Machine.execUnpack wire s
  | .cksum bytes => Sys2Proof.Machine.execCksum bytes s
  | .frameBuild ch cmd wire => Sys2Proof.Machine.execFrameBuild ch cmd wire s
  | .frameBuildP ch cmd raw => Sys2Proof.Machine.execFrameBuildP ch cmd raw s
  | .frameParse m => Sys2Proof.Machine.execFrameParse m s
  | .frameUnpack m => Sys2Proof.Machine.execFrameUnpack m s
  | .send cmd raw => Sys2Proof.Machine.execSend cmd raw s
  | .fullResync => Sys2Proof.Machine.execFullResync s
  | .rawOf p => Sys2Proof.Machine.execRawOf p s
  | .abort x => Sys2Proof.Machine.execAbort x s
  | .reset => Sys2Proof.Machine.execReset s
  | .portOpen => Sys2Proof.Machine.execPortOpen s
  | .portClose => Sys2Proof.Machine.execPortClose s
  | .hostResync => Sys2Proof.Machine.execHostResync s
  | .hostSend cmd raw => Sys2Proof.Machine.execHostSend cmd raw s
  | .uploadStart b1 b2 b3 b4 b5 b6 b7 b8 => Sys2Proof.Machine.execUploadStart b1 b2 b3 b4 b5 b6 b7 b8 s
  | .wdTick => Sys2Proof.Machine.execWdTick s
  | .rx m => Sys2Proof.Machine.execRx m s
  | .rxPassthru m => Sys2Proof.Machine.execRxPassthru m s
  | .rxEnqack1 ch wire => Sys2Proof.Machine.execRxEnqack1 ch wire s
  | .rxEnqack2 ch wire => Sys2Proof.Machine.execRxEnqack2 ch wire s
  | .rxStatus ch wire => Sys2Proof.Machine.execRxStatus ch wire s
  | .rxAmpcabReq ch wire => Sys2Proof.Machine.execRxAmpcabReq ch wire s
  | .rxAmpcab ch wire => Sys2Proof.Machine.execRxAmpcab ch wire s
  | .rxX0A ch wire => Sys2Proof.Machine.execRxX0A ch wire s
  | .rxNamesReq ch wire => Sys2Proof.Machine.execRxNamesReq ch wire s
  | .rxNames ch wire => Sys2Proof.Machine.execRxNames ch wire s
  | .rxCurnameReq ch wire => Sys2Proof.Machine.execRxCurnameReq ch wire s
  | .rxCurname ch wire => Sys2Proof.Machine.execRxCurname ch wire s
  | .rxEnddump ch wire => Sys2Proof.Machine.execRxEnddump ch wire s
  | .rxDump ch wire => Sys2Proof.Machine.execRxDump ch wire s
  | .rxExpr ch wire => Sys2Proof.Machine.execRxExpr ch wire s
  | .rxX28 ch wire => Sys2Proof.Machine.execRxX28 ch wire s
  | .rxCustom ch wire => Sys2Proof.Machine.execRxCustom ch wire s
  | .rxParam ch wire => Sys2Proof.Machine.execRxParam ch wire s
  | .rxPatchchg ch wire => Sys2Proof.Machine.execRxPatchchg ch wire s
  | .rxX2E ch wire => Sys2Proof.Machine.execRxX2E ch wire s
  | .rxAck ch wire => Sys2Proof.Machine.execRxAck ch wire s
  | .rxNak ch wire => Sys2Proof.Machine.execRxNak ch wire s
  | .rxUnrec cmd ch wire => Sys2Proof.Machine.execRxUnrec cmd ch wire s
  | .txStatusReq => Sys2Proof.Machine.execTxStatusReq s
  | .txNamesReq bank => Sys2Proof.Machine.execTxNamesReq bank s
  | .txAmpcabReq => Sys2Proof.Machine.execTxAmpcabReq s
  | .txCurnameReq => Sys2Proof.Machine.execTxCurnameReq s
  | .txKeepalive => Sys2Proof.Machine.execTxKeepalive s
  | .txAck => Sys2Proof.Machine.execTxAck s
  | .txHost cmd raw => Sys2Proof.Machine.execTxHost cmd raw s
  | .txUpload block => Sys2Proof.Machine.execTxUpload block s
  | .txEnquiry => Sys2Proof.Machine.execTxEnquiry s

end Sys2Proof.Machine
end

