-- ==== Sys2Proof/Machine/Step.lean ====
section
/-! DEFINITION. One step of the machine: the next item of the environment's queue (spec/20_memory.md R70, R71, log 1) is decoded and run to
completion (43 R200, 20 R69). -/

namespace Sys2Proof.Machine

/-- R200: one step. With nothing pending the block "holds its registers and does nothing" (R327, log 23). -/
def step (s : State) : Host.Outcome State Fault Refusal :=
  match s.pending with
  | [] => .next s
  | item :: rest =>
    match decode item with
    | .ok i => exec i { s with pending := rest }
    | .error e => .refused (.notAnItem e)

/-- The state with the item of a table word put at the head of the queue, so that the next step runs it (log 1, log 17). -/
def State.withFetchWord (s : State) (nbits w : Nat) : State :=
  { s with pending := tableItem nbits w :: s.pending }

end Sys2Proof.Machine
end

