-- ==== Sys2Proof/Safety.lean ====
section
/-! DEFINITION. What counts as a safe state and a safe run, in the terms the statements use: the register invariants that
spec/10_state.md states for the values between steps, and the registers a closed port leaves (spec/43_session_handshake.md R204). -/

namespace Sys2Proof.Machine

/-- The session registers between steps: R28 "the value between steps is 0 to 4"; R24 "8 is never the value between two steps"; R27 "when
`CHANNEL_LOCK = c` it holds `c` for ever"; an upload runs only while connected, and the block is connected only while the port is open. -/
structure SessionOk (s : State) : Prop where
  biteBelowLimit : s.biteCount.toNat < cfg.wdLimit
  phaseBelowEight : s.uploadPhase.toNat ≤ 7
  channelLocked : ∀ ch, cfg.channelLock = some ch → s.channel = ch
  uploadConnected : s.uploadPhase ≠ 0 → s.connected = true
  connectedOpen : s.connected = true → s.portOpen = true

/-- R204: what PORT.CLOSE leaves, while the port stays closed. -/
structure ClosedIdle (s : State) : Prop where
  idle : s.portOpen = false →
    s.connected = false ∧ s.resyncing = false ∧ s.uploadPhase = 0 ∧ s.biteCount = 0

/-- The registers of R20, without the output list and the model's own fields. -/
structure Registers where
  portOpen : Bool
  connected : Bool
  resyncing : Bool
  uploadPhase : BitVec 4
  currentPatch : Patch
  userPatchNames : List Text
  channel : Seven
  biteCount : BitVec 3
  uploadBlocks : UploadBlocks
deriving DecidableEq, Repr

/-- The registers a state holds. -/
def State.registers (s : State) : Registers :=
  ⟨s.portOpen, s.connected, s.resyncing, s.uploadPhase, s.currentPatch, s.userPatchNames, s.channel, s.biteCount,
    s.uploadBlocks⟩

/-- Every `Tx` of the list is the enquiry or a frame that FRAME.PARSE accepts with this device's ids (R201, R202). -/
def TransmitsFrames (os : List Output) : Prop :=
  ∀ m, Output.tx m ∈ os → m = cfg.enquiryFrame ∨ ∃ p, frameParse cfg m = .ok p ∧ forThisDevice cfg p = true

/-- The bytes of a `GNXF` frame on channel `ch` from the command on, with the checksum the frame has on channel 0 (R62, R92: the
channel byte is one of the bytes the checksum runs over). -/
def gnxf (ch : Seven) (fromCommand : Bytes) (checksumOnZero : Byte) : Bytes :=
  [0xF0, 0x00, 0x00, 0x10, wide ch, 0x56] ++ fromCommand ++ [checksumOnZero ^^^ wide ch, 0xF7]

/-- R62, R92: the frame that carries a wire payload, its checksum the exclusive or of everything between the start byte and itself. -/
def gnxfWire (ch : Seven) (cmd : Seven) (wire : Bytes) : Bytes :=
  let body := [0x00, 0x00, 0x10, wide ch, 0x56, wide cmd] ++ wire
  [0xF0] ++ body ++ [body.foldl (· ^^^ ·) 0, 0xF7]

/-- R98: the frame that carries `raw` packed. -/
def gnxfOf (ch : Seven) (cmd : Seven) (raw : Bytes) : Bytes :=
  gnxfWire ch cmd (pack cfg raw)

/-- R317, R318: the state an aborted receive step leaves, in terms of the state before the frame arrived. -/
def abortedFrom (s : State) (earlier : List Output) (x : ErrorCode) : State :=
  { s with
    biteCount := 0
    resyncing := false
    uploadPhase := 0
    outputs := s.outputs ++ earlier ++ [.alert .protocolViolation x (cfg.alertTitle x) (cfg.alertText x)] }

end Sys2Proof.Machine
end

