-- ==== Sys2Proof/Certificates/Slice0/Obligations.lean ====
section
/-! DEFINITION. The statements about the machine, from the numbered rules of spec/. Each docstring names the rules it formalises. -/

open Sys2Proof Sys2Proof.Machine

/-- R131. For every 32-bit value and every state, VARINT.ENC answers a next state that differs only in the returned
result: the domain error above 0xFFFFFF, else the one-byte form below 0x80, marker 81 and one byte below 0x100, marker
82 and two big-endian bytes below 0x10000, marker 83 and three big-endian bytes otherwise. -/
def Obligations.VarintEncodeEmitsTheShortestForm : Prop :=
  ∀ (value : BitVec 32) (s : State),
    exec (.varintEnc value) s = .next { s with returned := some (
      if value.toNat > 0xFFFFFF then .err (.varintDomain value)
      else if value.toNat < 0x80 then .bytes [BitVec.ofNat 8 value.toNat]
      else if value.toNat < 0x100 then .bytes [0x81, BitVec.ofNat 8 value.toNat]
      else if value.toNat < 0x10000 then .bytes [0x82, BitVec.ofNat 8 (value.toNat / 256), BitVec.ofNat 8 value.toNat]
      else .bytes [0x83, BitVec.ofNat 8 (value.toNat / 65536), BitVec.ofNat 8 (value.toNat / 256),
        BitVec.ofNat 8 value.toNat]) }

/-- R132. For every buffer, cursor and state, VARINT.DEC answers a next state that differs only in the returned
result, which is computed from the bytes from the cursor on: none left gives VarintTruncated; a first byte below 0x80
is the value; a first byte 0x80 or above 0x83 gives VarintMalformed; too few value bytes give VarintTruncated; else
the cursor moves by 1 + n and the value is the n bytes accumulated by value*256 + byte. -/
def Obligations.VarintDecodeReadsFirstByteThenCountedBytes : Prop :=
  ∀ (buf : Bytes) (pos : Nat) (s : State),
    exec (.varintDec buf pos) s = .next { s with returned := some (
      match buf.drop pos with
      | [] => .err (.varintTruncated pos)
      | b :: rest =>
        if b.toNat < 0x80 then .cursorValue (pos + 1) b.toNat
        else if b.toNat = 0x80 ∨ b.toNat > 0x83 then .err (.varintMalformed pos b)
        else if rest.length < b.toNat - 0x80 then .err (.varintTruncated pos)
        else .cursorValue (pos + 1 + (b.toNat - 0x80))
          ((rest.take (b.toNat - 0x80)).foldl (fun value x => value * 256 + x.toNat) 0)) }

/-- R131, R132, R133. For every value up to 0xFFFFFF, VARINT.ENC answers bytes, and VARINT.DEC at cursor 0 of those
bytes followed by any tail answers the length of the bytes as the cursor and the value. -/
def Obligations.VarintDecodeInvertsEncode : Prop :=
  ∀ (value : BitVec 32) (tail : Bytes) (s : State), value.toNat ≤ 0xFFFFFF →
    ∃ bs : Bytes,
      exec (.varintEnc value) s = .next { s with returned := some (.bytes bs) } ∧
      ∀ t : State, exec (.varintDec (bs ++ tail) 0) t =
        .next { t with returned := some (.cursorValue bs.length value.toNat) }

/-- R132, R135. For every list of values up to 0xFFFFFF there are byte lists, each what VARINT.ENC answers for its
value, such that reading that many varints in a row from cursor 0 of their concatenation, whatever follows it, gives
the whole length as the cursor and the values in order. The concatenation is read by the model's function
varintDecSeq, the caller's loop of R135. -/
def Obligations.VarintSequenceReadsEveryValue : Prop :=
  ∀ (values : List (BitVec 32)) (tail : Bytes), (∀ v ∈ values, v.toNat ≤ 0xFFFFFF) →
    ∃ encoded : List Bytes,
      List.Forall₂ (fun v bs => ∀ s : State, exec (.varintEnc v) s = .next { s with returned := some (.bytes bs) })
        values encoded ∧
      varintDecSeq (encoded.flatten ++ tail) values.length 0 =
        .ok (encoded.flatten.length, values.map (·.toNat))

/-- R99, R100, R108, R132. That a row is read by VARINT.DEC at cursor 0 of its own bytes is the model's choice, log 5.
-/
def Obligations.VarintRowsReadTheirOwnBytes : Prop :=
  (∀ (v : BitVec 7) (s : State),
      exec (.varintV1 v) s = .next { s with returned := some (.cursorValue 1 v.toNat) }) ∧
    (∀ (v : BitVec 8) (s : State),
      exec (.varintV2 v) s = .next { s with returned := some (.cursorValue 2 v.toNat) }) ∧
    (∀ (v : BitVec 16) (s : State),
      exec (.varintV3 v) s = .next { s with returned := some (.cursorValue 3 v.toNat) }) ∧
    (∀ (v : BitVec 24) (s : State),
      exec (.varintV4 v) s = .next { s with returned := some (.cursorValue 4 v.toNat) }) ∧
    (∀ s : State,
      exec .varintIllegal0 s = .next { s with returned := some (.err (.varintMalformed 0 0x80)) }) ∧
    (∀ (n : BitVec 7) (s : State), 4 ≤ n.toNat →
      exec (.varintIllegalN n) s =
        .next { s with returned := some (.err (.varintMalformed 0 (BitVec.ofNat 8 (0x80 + n.toNat)))) })

/-- R95, R153, and the lane view of R152. That the row is read by UNPACK is the model's choice, log 6. -/
def Obligations.PackgroupGivesEachLaneItsFlag : Prop :=
  ∀ (flags : BitVec 7) (data : List Seven) (s : State), 1 ≤ data.length → data.length ≤ 7 →
    exec (.packgroup flags data) s = .next { s with returned := some (
      if flags.toNat % 2 ^ (7 - data.length) ≠ 0 then .err (.packMalformed 0)
      else .bytes (data.mapIdx fun j b => if flags.getLsbD (6 - j) then wide b ||| 0x80 else wide b)) }

/-- R95, R151. For every raw payload and state, PACK answers a next state that differs only in the returned result, a
byte list w of length n + ceil(n/7); raw byte i is found with bit 7 cleared at index 8*(i/7) + 1 + i%7, its bit 7 at
bit 6 - i%7 of the header at index 8*(i/7); and bit 7 and the flag bits of absent bytes of every header are 0. -/
def Obligations.PackLaysEveryByteInItsLane : Prop :=
  ∀ (raw : Bytes) (s : State), ∃ w : Bytes,
    exec (.pack raw) s = .next { s with returned := some (.bytes w) } ∧
    w.length = raw.length + (raw.length + 6) / 7 ∧
    (∀ (i : Nat) (b : Byte), raw[i]? = some b →
      w[8 * (i / 7) + 1 + i % 7]? = some (b &&& 0x7F) ∧
      ∃ h : Byte, w[8 * (i / 7)]? = some h ∧ h.getLsbD (6 - i % 7) = b.msb) ∧
    (∀ (g : Nat) (h : Byte), w[8 * g]? = some h →
      h.msb = false ∧ ∀ j : Nat, j < 7 → raw.length ≤ 7 * g + j → h.getLsbD (6 - j) = false)

/-- R150, R153, R154. For every raw payload x of any length, PACK answers a wire payload w, and UNPACK of w answers x,
in any states. -/
def Obligations.UnpackInvertsPack : Prop :=
  ∀ (x : Bytes) (s : State), ∃ w : Bytes,
    exec (.pack x) s = .next { s with returned := some (.bytes w) } ∧
    ∀ t : State, exec (.unpack w) t = .next { t with returned := some (.bytes x) }

/-- R153, R154. For every wire payload w and state, UNPACK answers a next state that differs only in the returned
result; the result is the raw payload x exactly when PACK of x is w, and when no raw payload packs to w it is
PackMalformed at an index inside w. -/
def Obligations.UnpackAcceptsExactlyWhatPackMakes : Prop :=
  ∀ (w : Bytes) (s : State), ∃ r : Result,
    exec (.unpack w) s = .next { s with returned := some r } ∧
    (∀ x : Bytes, r = .bytes x ↔ pack cfg x = w) ∧
    ((∀ x : Bytes, pack cfg x ≠ w) → ∃ i : Nat, i < w.length ∧ r = .err (.packMalformed i))

/-- R171. For every byte list and state, CKSUM answers a next state that differs only in the returned result, the
exclusive or of the bytes taken from the right end, 0 for the empty list. -/
def Obligations.ChecksumIsExclusiveOrOfAllBytes : Prop :=
  ∀ (bs : Bytes) (s : State),
    exec (.cksum bs) s = .next { s with returned := some (.byte (bs.foldr (· ^^^ ·) 0)) }

/-- R172. For every channel byte, command byte, wire payload and state, FRAME.BUILD answers a next state that differs
only in the returned result: the frame F0 00 00 10 ch 56 cmd wire checksum F7 with the exclusive or of everything
between start byte and checksum, or FrameDomain when the channel, the command or a wire byte is 0x80 or more. -/
def Obligations.FrameBuildMakesTheEnvelope : Prop :=
  ∀ (ch cmd : Byte) (wire : Bytes) (s : State),
    exec (.frameBuild ch cmd wire) s = .next { s with returned := some (
      if (ch :: cmd :: wire).all (fun b => decide (b.toNat < 0x80)) then
        .bytes ([0xF0, 0x00, 0x00, 0x10, ch, 0x56, cmd] ++ wire ++
          [([0x00, 0x00, 0x10, ch, 0x56, cmd] ++ wire).foldl (· ^^^ ·) 0, 0xF7])
      else .err .frameDomain) }

/-- R150, R173. For every channel byte, command byte, raw payload and state, FRAME.BUILDP answers a next state that
differs only in the returned result: FrameDomain when the channel or the command is 0x80 or more, else the frame that
carries PACK of the raw payload. -/
def Obligations.FrameBuildPackedFailsOnlyThroughChannelOrCommand : Prop :=
  ∀ (ch cmd : Byte) (raw : Bytes) (s : State),
    exec (.frameBuildP ch cmd raw) s = .next { s with returned := some (
      if ch.toNat < 0x80 ∧ cmd.toNat < 0x80 then .bytes (gnxfOf (low7 ch) (low7 cmd) raw)
      else .err .frameDomain) }

/-- R175. For every message and state, FRAME.PARSE answers a next state that differs only in the returned result:
FrameMalformed for fewer than 9 bytes, a first byte other than F0 or a last byte other than F7; then FrameMalformed
for an inner byte of 0x80 or more; then ChecksumMismatch with the received and the computed checksum; else the fields
by their indices. -/
def Obligations.FrameParseTestsInOrder : Prop :=
  ∀ (m : Bytes) (s : State),
    exec (.frameParse m) s = .next { s with returned := some (
      if m.length < 9 ∨ m.head? ≠ some 0xF0 ∨ m.getLast? ≠ some 0xF7 then .err .frameMalformed
      else
        let inner := m.tail.dropLast
        let body := inner.dropLast
        if inner.any (fun b => decide (0x80 ≤ b.toNat)) then .err .frameMalformed
        else if body.foldl (· ^^^ ·) 0 ≠ inner.getLastD 0 then
          .err (.checksumMismatch (inner.getLastD 0) (body.foldl (· ^^^ ·) 0))
        else .frame
          { mnfrId := ⟨inner.getD 0 0, inner.getD 1 0, inner.getD 2 0⟩
            midiChannel := inner.getD 3 0
            deviceId := inner.getD 4 0
            commandCode := inner.getD 5 0
            wire := body.drop 6
            checksum := inner.getLastD 0 }) }

/-- R172, R175, R177. For every 7-bit channel and command and every wire payload of 7-bit values, FRAME.BUILD answers
a message, and FRAME.PARSE of it answers the parsed frame with the fixed ids, that channel, that command and that wire
payload. -/
def Obligations.FrameParseInvertsBuild : Prop :=
  ∀ (ch cmd : Seven) (wire : Bytes) (s : State), (∀ b ∈ wire, b.toNat < 0x80) →
    ∃ (m : Bytes) (ck : Byte),
      exec (.frameBuild (wide ch) (wide cmd) wire) s = .next { s with returned := some (.bytes m) } ∧
      ∀ t : State, exec (.frameParse m) t = .next { t with returned := some (.frame
        { mnfrId := ⟨0x00, 0x00, 0x10⟩, midiChannel := wide ch, deviceId := 0x56, commandCode := wide cmd,
          wire := wire, checksum := ck }) }

/-- R173, R176, R177. For every 7-bit channel and command and every raw payload, FRAME.BUILDP answers a message, and
FRAME.UNPACK of it answers the raw payload. -/
def Obligations.FrameUnpackInvertsBuildPacked : Prop :=
  ∀ (ch cmd : Seven) (raw : Bytes) (s : State), ∃ m : Bytes,
    exec (.frameBuildP (wide ch) (wide cmd) raw) s = .next { s with returned := some (.bytes m) } ∧
    ∀ t : State, exec (.frameUnpack m) t = .next { t with returned := some (.bytes raw) }

/-- R177. For every message that FRAME.PARSE accepts, every index from 1 to L - 2 and every non-zero difference,
FRAME.PARSE of the message with that one byte changed by exclusive or with the difference answers an error. -/
def Obligations.FrameParseDetectsOneAlteredByte : Prop :=
  ∀ (m : Bytes) (p : ParsedFrame), frameParse cfg m = .ok p →
    ∀ (i : Nat) (b d : Byte), 1 ≤ i → i ≤ m.length - 2 → m[i]? = some b → d ≠ 0 → ∀ s : State,
      ∃ x : ErrorCode, exec (.frameParse (m.set i (b ^^^ d))) s = .next { s with returned := some (.err x) }

/-- R176, for the messages that FRAME.PARSE accepts. For a message that FRAME.PARSE rejects the spec states no result:
what the first clause says of one of 9 bytes or more, and the whole third clause, is the model's choice, log 14. -/
def Obligations.FrameUnpackReadsThePayloadSlice : Prop :=
  (∀ (m : Bytes) (s : State), 9 ≤ m.length →
      exec (.frameUnpack m) s =
        .next { s with returned := some (bytesResult (unpack cfg (m.drop 7).dropLast.dropLast)) }) ∧
    (∀ (m : Bytes) (p : ParsedFrame), frameParse cfg m = .ok p → (m.drop 7).dropLast.dropLast = p.wire) ∧
    (∀ (m : Bytes) (s : State), m.length < 9 →
      ∃ x : ErrorCode, exec (.frameUnpack m) s = .next { s with returned := some (.err x) })

/-- R206. That the error of RawOf called alone is returned to its caller is the model's choice, log 29. -/
def Obligations.RawOfTurnsPackMalformedIntoPayloadMalformed : Prop :=
  ∀ (p : ParsedFrame) (s : State),
    (∀ raw : Bytes, unpack cfg p.wire = .ok raw →
      exec (.rawOf p) s = .next { s with returned := some (.bytes raw) }) ∧
    (∀ x : ErrorCode, unpack cfg p.wire = .error x →
      exec (.rawOf p) s = .next { s with returned := some (.err (.payloadMalformed p.commandCode)) })

/-- R201, for Send. That the row TX.HOST is the sending of its frame through Send is the model's choice, log 8. -/
def Obligations.SendTransmitsOneFrameOrLogs : Prop :=
  ∀ (cmd : Seven) (raw : Bytes) (s : State),
    exec (.send cmd raw) s = .next { s with outputs := s.outputs ++
      [if s.portOpen then .tx (gnxfOf s.channel cmd raw) else .log .portNotOpen] } ∧
    exec (.txHost cmd raw) s = .next { s with outputs := s.outputs ++
      [if s.portOpen then .tx (gnxfOf s.channel cmd raw) else .log .portNotOpen] }

/-- R202. That the procedure does so also with the port closed, where the spec never calls it, is the model's choice,
log 9. -/
def Obligations.FullResyncRestartsTheHandshake : Prop :=
  ∀ s : State,
    exec .fullResync s = .next { s with
      connected := false
      resyncing := true
      uploadPhase := 0
      biteCount := 0
      outputs := s.outputs ++ (if s.connected then [.notify .disconnected] else []) ++ [.tx cfg.enquiryFrame] }

/-- R317. For every error code and every state, Abort answers the state with resyncing 0, uploadPhase 0 and one alert
of class protocol violation with that code emitted, and nothing else changed: portOpen, connected, channel,
currentPatch, userPatchNames and biteCount are as before. -/
def Obligations.AbortClearsTheTransactionAndAlertsOnce : Prop :=
  ∀ (x : ErrorCode) (s : State),
    exec (.abort x) s = .next { s with
      resyncing := false
      uploadPhase := 0
      outputs := s.outputs ++ [.alert .protocolViolation x (cfg.alertTitle x) (cfg.alertText x)] }

/-- R350. The queue, the returned result and the count of free values are the model's own, log 1, 3 and 11. -/
def Obligations.ResetGivesEveryRegisterItsResetValue : Prop :=
  ∀ s : State, ∃ blocks : UploadBlocks,
    exec .reset s = .next
      { portOpen := false
        connected := false
        resyncing := false
        uploadPhase := 0
        currentPatch := ⟨0x00, 0x00, []⟩
        userPatchNames := []
        channel := match cfg.channelLock with
          | some ch => ch
          | none => 0x00
        biteCount := 0
        uploadBlocks := blocks
        outputs := s.outputs
        pending := s.pending
        returned := s.returned
        freeCount := s.freeCount + 1 }

/-- R203. In every state PORT.OPEN answers the state with portOpen 1, connected 0, resyncing 1, uploadPhase 0,
biteCount 0, Disconnected notified if it was connected, then the enquiry transmitted, and nothing else changed; the
label is then ENQUIRING. -/
def Obligations.PortOpenStartsTheHandshake : Prop :=
  ∀ s : State,
    exec .portOpen s = .next { s with
      portOpen := true
      connected := false
      resyncing := true
      uploadPhase := 0
      biteCount := 0
      outputs := s.outputs ++ (if s.connected then [.notify .disconnected] else []) ++ [.tx cfg.enquiryFrame] } ∧
    ∀ t : State, exec .portOpen s = .next t → label t = .enquiring

/-- R204. In every state PORT.CLOSE answers the state with portOpen, connected, resyncing, uploadPhase and biteCount
0, Disconnected notified if it was connected, nothing transmitted, and nothing else changed; the label is then
DISCONNECTED, and neither WD.TICK nor RX changes that state. -/
def Obligations.PortCloseClearsTheControlRegisters : Prop :=
  ∀ s : State,
    exec .portClose s = .next { s with
      portOpen := false
      connected := false
      resyncing := false
      uploadPhase := 0
      biteCount := 0
      outputs := s.outputs ++ (if s.connected then [.notify .disconnected] else []) } ∧
    ∀ t : State, exec .portClose s = .next t →
      label t = .disconnected ∧ exec .wdTick t = .next t ∧ ∀ m : Bytes, exec (.rx m) t = .next t

/-- R202, R205. With the port open HOST.RESYNC answers what FullResync answers, connected 0, resyncing 1, uploadPhase
0, biteCount 0 and the enquiry transmitted; with the port closed it answers the state with only a log line added. -/
def Obligations.HostResyncNeedsAnOpenPort : Prop :=
  ∀ s : State,
    exec .hostResync s = .next (
      if s.portOpen then { s with
        connected := false
        resyncing := true
        uploadPhase := 0
        biteCount := 0
        outputs := s.outputs ++ (if s.connected then [.notify .disconnected] else []) ++ [.tx cfg.enquiryFrame] }
      else { s with outputs := s.outputs ++ [.log .portNotOpen] })

/-- R257. For every command byte, raw payload and state, HOST.SEND answers a next state that differs only in one more
output: the refusal log line for a command of 0x80 or more, else the packed frame on the current channel with the port
open, else the log line "port not open". -/
def Obligations.HostSendRefusesAnEightBitCommand : Prop :=
  ∀ (cmd : Byte) (raw : Bytes) (s : State),
    exec (.hostSend cmd raw) s = .next { s with outputs := s.outputs ++
      [if 0x80 ≤ cmd.toNat then .log .sendRefused
       else if s.portOpen then .tx (gnxfOf s.channel (low7 cmd) raw)
       else .log .portNotOpen] }

/-- R250. When the port is open, the block is connected, neither resyncing nor uploading, and every block's command is
below 0x80, UPLOAD.START answers the state with the eight blocks latched, uploadPhase 1 and block 1 transmitted; in
every other case it answers the state with only the refusal log line added. -/
def Obligations.UploadStartLatchesAndSendsBlockOne : Prop :=
  ∀ (b1 b2 b3 b4 b5 b6 b7 b8 : HostBlock) (s : State),
    exec (.uploadStart b1 b2 b3 b4 b5 b6 b7 b8) s = .next (
      if s.portOpen = true ∧ s.connected = true ∧ s.resyncing = false ∧ s.uploadPhase = 0 ∧
          ∀ b ∈ [b1, b2, b3, b4, b5, b6, b7, b8], b.cmd.toNat < 0x80 then
        { s with
          uploadBlocks :=
            ⟨⟨low7 b1.cmd, b1.raw⟩, ⟨low7 b2.cmd, b2.raw⟩, ⟨low7 b3.cmd, b3.raw⟩, ⟨low7 b4.cmd, b4.raw⟩,
              ⟨low7 b5.cmd, b5.raw⟩, ⟨low7 b6.cmd, b6.raw⟩, ⟨low7 b7.cmd, b7.raw⟩, ⟨low7 b8.cmd, b8.raw⟩⟩
          uploadPhase := 1
          outputs := s.outputs ++ [.tx (gnxfOf s.channel (low7 b1.cmd) b1.raw)] }
      else { s with outputs := s.outputs ++ [.log .uploadRefused] })

/-- R270, R272. What a biteCount of 5 to 7, which no run reaches, does is the model's choice, log 15. -/
def Obligations.WatchdogTickKeepsAliveOrResyncs : Prop :=
  ∀ s : State,
    exec .wdTick s = .next (
      if s.portOpen = false then s
      else if s.biteCount.toNat < 4 then { s with
        biteCount := s.biteCount + 1
        outputs := s.outputs ++ [.tx (gnxf s.channel [0x76] 0x30)] }
      else { s with
        connected := false
        resyncing := true
        uploadPhase := 0
        biteCount := 0
        outputs := s.outputs ++ (if s.connected then [.notify .disconnected] else []) ++ [.tx cfg.enquiryFrame] })

/-- R270, R274. From every state with the port open, biteCount 0 and five WD.TICK events at the head of the queue,
five steps answer the state with those events taken, four keep-alives, then Disconnected (if connected) and one
enquiry emitted, connected 0, resyncing 1, uploadPhase 0, biteCount 0, and nothing else changed. The queue the events
are taken from is the model's, log 1. -/
def Obligations.FiveSilentTicksGiveExactlyOneResync : Prop :=
  ∀ (s : State) (rest : List Item), s.portOpen = true → s.biteCount = 0 →
    s.pending = List.replicate 5 (.call .wdTick []) ++ rest →
    Host.Core.run Sys2Proof.core 5 s = .next { s with
      pending := rest
      connected := false
      resyncing := true
      uploadPhase := 0
      biteCount := 0
      outputs := s.outputs ++ List.replicate 4 (.tx (gnxf s.channel [0x76] 0x30)) ++
        (if s.connected then [.notify .disconnected] else []) ++ [.tx cfg.enquiryFrame] }

/-- R312. With the port closed RX answers the state unchanged, and Send and HOST.RESYNC answer it with only the log
line "port not open" added. With the port open, an empty message, a message from F0 that FRAME.PARSE rejects with x,
and an accepted frame with other ids are each answered by the state with exactly one log line added, biteCount among
the registers left as they were. -/
def Obligations.RxDropsWhatIsNotAFrameOfTheDevice : Prop :=
  ∀ (m : Bytes) (s : State),
    (s.portOpen = false → exec (.rx m) s = .next s) ∧
    (s.portOpen = true → m = [] → exec (.rx m) s = .next { s with outputs := s.outputs ++ [.log .emptyMessage] }) ∧
    (∀ x : ErrorCode, s.portOpen = true → m.head? = some 0xF0 → frameParse cfg m = .error x →
      exec (.rx m) s = .next { s with outputs := s.outputs ++ [.log (.dropped x)] }) ∧
    (∀ p : ParsedFrame, s.portOpen = true → frameParse cfg m = .ok p →
      p.mnfrId ≠ ⟨0x00, 0x00, 0x10⟩ ∨ p.deviceId ≠ 0x56 →
      exec (.rx m) s = .next { s with outputs := s.outputs ++ [.log (.dropped .notForThisDevice)] }) ∧
    (∀ (cmd : Seven) (raw : Bytes), s.portOpen = false →
      exec (.send cmd raw) s = .next { s with outputs := s.outputs ++ [.log .portNotOpen] } ∧
      exec .hostResync s = .next { s with outputs := s.outputs ++ [.log .portNotOpen] })

/-- R210, R211. With the port open and a message whose first byte is not F0, both the event RX and the row RX.PASSTHRU
answer the state with biteCount 0 and the message dispatched as PassThrough, and nothing else changed; with the port
closed RX.PASSTHRU answers the state unchanged. -/
def Obligations.NonSysexMessagePassesThrough : Prop :=
  ∀ (b : Byte) (bs : Bytes) (s : State), b ≠ 0xF0 →
    (s.portOpen = true →
      exec (.rx (b :: bs)) s =
        .next { s with biteCount := 0, outputs := s.outputs ++ [.dispatch (.passThrough (b :: bs))] } ∧
      exec (.rxPassthru (b :: bs)) s =
        .next { s with biteCount := 0, outputs := s.outputs ++ [.dispatch (.passThrough (b :: bs))] }) ∧
    (s.portOpen = false → exec (.rxPassthru (b :: bs)) s = .next s)

/-- R102, R210, R212. For every message and every state, RX answers what the instruction that the inbound decoder
reads from the message answers (for a message the front end drops that is RX itself, log 22): the front end's parse,
its id test and its dispatch by the command byte agree with the command map the decoder is written from. -/
def Obligations.ReceiveRunsTheRowTheMessageDecodesTo : Prop :=
  ∀ (m : Bytes) (s : State),
    decode (.inbound m) = .ok (decodeInbound m) ∧ exec (.rx m) s = exec (decodeInbound m) s

/-- R213, R214. With the port open, both enquiry acknowledgements answer the state with biteCount 0, channel the
frame's channel unless a lock is set, connected 1, Connected notified if it was not connected, and the status request
05 00 01 transmitted on the channel just adopted; nothing else changes, resyncing among it. -/
def Obligations.EnquiryAckConnectsAndAsksForStatus : Prop :=
  ∀ (ch : Seven) (wire : Bytes) (s : State), s.portOpen = true →
    let adopted := if cfg.channelLock = none then ch else s.channel
    let after : State := { s with
      biteCount := 0
      channel := adopted
      connected := true
      outputs := s.outputs ++ (if s.connected then [] else [.notify .connected]) ++
        [.tx (gnxf adopted [0x05, 0x00, 0x01] 0x42)] }
    exec (.rxEnqack1 ch wire) s = .next after ∧ exec (.rxEnqack2 ch wire) s = .next after

/-- R215. With the port open, RX.STATUS answers: if the payload does not unpack or ParseStatus gives none, the aborted
state with PayloadMalformed(06); else the state with biteCount 0, bank and number recorded, and the names request 12
00 00 transmitted when resyncing, and nothing else changed. -/
def Obligations.StatusResponseRecordsBankAndNumber : Prop :=
  ∀ (ch : Seven) (wire : Bytes) (s : State), s.portOpen = true →
    exec (.rxStatus ch wire) s = .next (
      match unpack cfg wire with
      | .error _ => abortedFrom s [] (.payloadMalformed 0x06)
      | .ok raw =>
        match cfg.parseStatus raw with
        | none => abortedFrom s [] (.payloadMalformed 0x06)
        | some (bank, number) => { s with
          biteCount := 0
          currentPatch := { s.currentPatch with bank := bank, number := number }
          outputs := s.outputs ++
            (if s.resyncing then [.tx (gnxf s.channel [0x12, 0x00, 0x00] 0x54)] else []) })

/-- R216. With the port open, RX.NAMES answers: on a payload that does not unpack or parse, the aborted state with
PayloadMalformed(13); else the state with biteCount 0, userPatchNames replaced when the bank is 1, PatchNamesUpdated
notified, and when resyncing the user-names request 12 00 01 for bank 0 or the amp/cab request 07 for any other bank
transmitted, and nothing else changed. -/
def Obligations.NamesResponseStoresUserNamesOnly : Prop :=
  ∀ (ch : Seven) (wire : Bytes) (s : State), s.portOpen = true →
    exec (.rxNames ch wire) s = .next (
      match unpack cfg wire with
      | .error _ => abortedFrom s [] (.payloadMalformed 0x13)
      | .ok raw =>
        match cfg.parseNames raw with
        | none => abortedFrom s [] (.payloadMalformed 0x13)
        | some (bank, names) => { s with
          biteCount := 0
          userPatchNames := if bank = 0x01 then names else s.userPatchNames
          outputs := s.outputs ++ [.notify (.patchNamesUpdated bank names)] ++
            (if s.resyncing then
              (if bank = 0x00 then [.tx (gnxf s.channel [0x12, 0x00, 0x01] 0x55)] else [.tx (gnxf s.channel [0x07] 0x41)])
            else []) })

/-- R218. With the port open, RX.CURNAME answers: on a payload that does not unpack or parse, the aborted state with
PayloadMalformed(21); else the state with biteCount 0, the name recorded and notified, and the acknowledgement 7E 00
21 transmitted when resyncing, and nothing else changed. -/
def Obligations.CurrentNameResponseIsAcknowledgedWhenResyncing : Prop :=
  ∀ (ch : Seven) (wire : Bytes) (s : State), s.portOpen = true →
    exec (.rxCurname ch wire) s = .next (
      match unpack cfg wire with
      | .error _ => abortedFrom s [] (.payloadMalformed 0x21)
      | .ok raw =>
        match cfg.parsePatchName raw with
        | none => abortedFrom s [] (.payloadMalformed 0x21)
        | some name => { s with
          biteCount := 0
          currentPatch := { s.currentPatch with name := name }
          outputs := s.outputs ++ [.notify (.patchNameChanged name)] ++
            (if s.resyncing then [.tx (gnxf s.channel [0x7E, 0x00, 0x21] 0x19)] else []) })

/-- R222. With the port open, RX.PATCHCHG answers: on a payload that does not unpack or parse, the aborted state with
PayloadMalformed(2D); else the state with biteCount 0, bank and number recorded, resyncing 1 and the request 20
transmitted, uploadPhase and everything else unchanged. -/
def Obligations.PatchChangeStartsAMiniResync : Prop :=
  ∀ (ch : Seven) (wire : Bytes) (s : State), s.portOpen = true →
    exec (.rxPatchchg ch wire) s = .next (
      match unpack cfg wire with
      | .error _ => abortedFrom s [] (.payloadMalformed 0x2D)
      | .ok raw =>
        match cfg.parsePatchChange raw with
        | none => abortedFrom s [] (.payloadMalformed 0x2D)
        | some (bank, number) => { s with
          biteCount := 0
          currentPatch := { s.currentPatch with bank := bank, number := number }
          resyncing := true
          outputs := s.outputs ++ [.tx (gnxf s.channel [0x20] 0x66)] })

/-- R106, R217. With the port open and a payload of one count byte, that many entries of index, six characters and
pad, a second count byte, its entries, and any tail, RX.AMPCAB answers the state with biteCount 0, the two lists
dispatched without their pads, and the request 20 transmitted when resyncing; a payload that does not unpack, or is
shorter than its counts require, gives the aborted state with PayloadMalformed(08). -/
def Obligations.AmpCabResponseReadsBothLists : Prop :=
  ∀ (ch : Seven) (wire : Bytes) (s : State), s.portOpen = true →
    (∀ (amps cabs : List (NameEntry × Byte)) (tail : Bytes),
      amps.length < 256 → cabs.length < 256 → (∀ e ∈ amps ++ cabs, e.1.name.length = 6) →
      unpack cfg wire = .ok (
        [BitVec.ofNat 8 amps.length] ++ amps.flatMap (fun e => [e.1.index] ++ e.1.name ++ [e.2]) ++
        [BitVec.ofNat 8 cabs.length] ++ cabs.flatMap (fun e => [e.1.index] ++ e.1.name ++ [e.2]) ++ tail) →
      exec (.rxAmpcab ch wire) s = .next { s with
        biteCount := 0
        outputs := s.outputs ++ [.dispatch (.ampCabNames (amps.map (·.1)) (cabs.map (·.1)))] ++
          (if s.resyncing then [.tx (gnxf s.channel [0x20] 0x66)] else []) }) ∧
    (∀ x : ErrorCode, unpack cfg wire = .error x →
      exec (.rxAmpcab ch wire) s = .next (abortedFrom s [] (.payloadMalformed 0x08))) ∧
    (∀ raw : Bytes, unpack cfg wire = .ok raw →
      raw.length < 2 + 8 * (raw.getD 0 0).toNat ∨
      raw.length < 2 + 8 * (raw.getD 0 0).toNat + 8 * (raw.getD (1 + 8 * (raw.getD 0 0).toNat) 0).toNat →
      exec (.rxAmpcab ch wire) s = .next (abortedFrom s [] (.payloadMalformed 0x08)))

/-- R219. With the port open, RX.DUMP answers: if the payload does not unpack, the aborted state with
PayloadMalformed(24); else, when the walk answers Ok, the state with biteCount 0 and the raw payload dispatched,
resyncing unchanged; when it answers a mismatch, the aborted state with PatternMismatch after the same dispatch. -/
def Obligations.DumpIsHandedOverBeforeItsVerdict : Prop :=
  ∀ (ch : Seven) (wire : Bytes) (s : State), s.portOpen = true →
    exec (.rxDump ch wire) s = .next (
      match unpack cfg wire with
      | .error _ => abortedFrom s [] (.payloadMalformed 0x24)
      | .ok raw =>
        match cfg.patchDumpWalk raw with
        | .ok => { s with biteCount := 0, outputs := s.outputs ++ [.dispatch (.patchDump raw)] }
        | .patternMismatch => abortedFrom s [.dispatch (.patchDump raw)] .patternMismatch)

/-- R220. With the port open, RX.ENDDUMP answers the state with biteCount 0 and resyncing 0, no output, its payload
not read and nothing else changed; if the block was connected with no upload, the state's label is then
CONNECTED_IDLE. -/
def Obligations.EndOfDumpClearsResyncing : Prop :=
  ∀ (ch : Seven) (wire : Bytes) (s : State), s.portOpen = true →
    exec (.rxEnddump ch wire) s = .next { s with biteCount := 0, resyncing := false } ∧
    (s.connected = true → s.uploadPhase = 0 →
      label { s with biteCount := 0, resyncing := false } = .connectedIdle)

/-- R105, R221. With the port open: not connected, RX.PARAM answers the state with only biteCount 0; connected, with a
payload of section, parameter and a varint, it answers the state with biteCount 0, the triple dispatched unless the
section is 0E, and the keep-alive transmitted; connected, with any other payload, it answers the aborted state with
PayloadMalformed(2C) and then the keep-alive. -/
def Obligations.ParamChangeIsAlwaysAnsweredByAKeepAlive : Prop :=
  ∀ (ch : Seven) (wire : Bytes) (s : State), s.portOpen = true →
    (s.connected = false → exec (.rxParam ch wire) s = .next { s with biteCount := 0 }) ∧
    (∀ (sect parameter : Byte) (rest : Bytes) (pos value : Nat), s.connected = true →
      unpack cfg wire = .ok (sect :: parameter :: rest) → varintDec (sect :: parameter :: rest) 2 = .ok (pos, value) →
      exec (.rxParam ch wire) s = .next { s with
        biteCount := 0
        outputs := s.outputs ++ (if sect = 0x0E then [] else [.dispatch (.paramChange sect parameter value)]) ++
          [.tx (gnxf s.channel [0x76] 0x30)] }) ∧
    (s.connected = true →
      (∀ raw : Bytes, unpack cfg wire = .ok raw →
        raw.length < 2 ∨ ∀ (pos value : Nat), varintDec raw 2 ≠ .ok (pos, value)) →
      exec (.rxParam ch wire) s = .next { abortedFrom s [] (.payloadMalformed 0x2C) with
        outputs := (abortedFrom s [] (.payloadMalformed 0x2C)).outputs ++ [.tx (gnxf s.channel [0x76] 0x30)] })

/-- R223, R224. With the port open, RX.NAK answers the aborted state with DeviceReportedChecksumError, and RX.UNREC
with UnrecognizedCommand of its command code: biteCount, resyncing and uploadPhase 0, one alert, nothing transmitted,
connected and everything else unchanged. -/
def Obligations.ErrorCommandsAbort : Prop :=
  ∀ (cmd ch : Seven) (wire : Bytes) (s : State), s.portOpen = true →
    exec (.rxNak ch wire) s = .next (abortedFrom s [] .deviceReportedChecksumError) ∧
    exec (.rxUnrec cmd ch wire) s = .next (abortedFrom s [] (.unrecognizedCommand (wide cmd)))

/-- R225, R226, R227, R228, R229, R230, R231, R232. With the port open, each of the commands 07, 0A, 12, 20, 26, 28,
2A and 2E answers the state with biteCount 0 and the block of its command code and wire payload dispatched, and
nothing else changed. -/
def Obligations.InertCommandsAreForwarded : Prop :=
  ∀ (ch : Seven) (wire : Bytes) (s : State), s.portOpen = true →
    let after := fun cmd : Byte =>
      { s with biteCount := 0, outputs := s.outputs ++ [.dispatch (.block cmd wire)] }
    exec (.rxAmpcabReq ch wire) s = .next (after 0x07) ∧ exec (.rxX0A ch wire) s = .next (after 0x0A) ∧
    exec (.rxNamesReq ch wire) s = .next (after 0x12) ∧ exec (.rxCurnameReq ch wire) s = .next (after 0x20) ∧
    exec (.rxExpr ch wire) s = .next (after 0x26) ∧ exec (.rxX28 ch wire) s = .next (after 0x28) ∧
    exec (.rxCustom ch wire) s = .next (after 0x2A) ∧ exec (.rxX2E ch wire) s = .next (after 0x2E)

/-- R251, R252, R253. With the port open, uploadPhase p from 1 to 7 and a payload whose first byte is the subcode
awaited in phase p (21, 24, 2A, 2A, 2A, 26, 28), RX.ACK answers the state with biteCount 0, block p + 1 of
uploadBlocks transmitted, and uploadPhase p + 1, or 0 when p is 7; nothing else changes. -/
def Obligations.AwaitedAckSendsTheNextBlock : Prop :=
  ∀ (ch : Seven) (wire : Bytes) (sub : Byte) (rest : Bytes) (ph : Fin 8) (s : State), s.portOpen = true →
    1 ≤ ph.val → s.uploadPhase.toNat = ph.val → unpack cfg wire = .ok (sub :: rest) →
    [0x21, 0x24, 0x2A, 0x2A, 0x2A, 0x26, 0x28][ph.val - 1]? = some sub →
    exec (.rxAck ch wire) s = .next { s with
      biteCount := 0
      uploadPhase := if ph.val = 7 then 0 else s.uploadPhase + 1
      outputs := s.outputs ++
        [.tx (gnxfOf s.channel (blockOf s.uploadBlocks ph).cmd (blockOf s.uploadBlocks ph).raw)] }

/-- D43, R252. With the port open: a payload whose first byte is not the subcode awaited in the present phase, or any
subcode in phase 0 or above 7, is answered by the state with only biteCount 0; an empty payload or one that does not
unpack by the aborted state with PayloadMalformed(7E). -/
def Obligations.UnawaitedAckIsInert : Prop :=
  ∀ (ch : Seven) (wire : Bytes) (s : State), s.portOpen = true →
    (∀ (sub : Byte) (rest : Bytes), unpack cfg wire = .ok (sub :: rest) →
      s.uploadPhase = 0 ∨ 7 < s.uploadPhase.toNat ∨
        [0x21, 0x24, 0x2A, 0x2A, 0x2A, 0x26, 0x28][s.uploadPhase.toNat - 1]? ≠ some sub →
      exec (.rxAck ch wire) s = .next { s with biteCount := 0 }) ∧
    (unpack cfg wire = .ok [] → exec (.rxAck ch wire) s = .next (abortedFrom s [] (.payloadMalformed 0x7E))) ∧
    (∀ x : ErrorCode, unpack cfg wire = .error x →
      exec (.rxAck ch wire) s = .next (abortedFrom s [] (.payloadMalformed 0x7E)))

/-- R210, R319. With the port closed, every one of the twenty-one rows of a received frame answers the state
unchanged, biteCount and outputs among it. -/
def Obligations.ClosedPortDeliversNoFrame : Prop :=
  ∀ (cmd ch : Seven) (wire : Bytes) (s : State), s.portOpen = false →
    ∀ i ∈ [Instr.rxEnqack1 ch wire, .rxEnqack2 ch wire, .rxStatus ch wire, .rxAmpcabReq ch wire, .rxAmpcab ch wire,
      .rxX0A ch wire, .rxNamesReq ch wire, .rxNames ch wire, .rxCurnameReq ch wire, .rxCurname ch wire,
      .rxEnddump ch wire, .rxDump ch wire, .rxExpr ch wire, .rxX28 ch wire, .rxCustom ch wire, .rxParam ch wire,
      .rxPatchchg ch wire, .rxX2E ch wire, .rxAck ch wire, .rxNak ch wire, .rxUnrec cmd ch wire],
    exec i s = .next s

/-- R103, R104, R201, and R29 for TX.UPLOAD in phase 0. That a row is the sending of its message, and that the enquiry
is sent also with the port closed, is the model's choice, log 8. That TX.UPLOAD run alone sends its block in phases 1
to 7 without an acknowledgement, and does nothing in any other phase, is the model's choice, log 32. -/
def Obligations.OwnMessagesLeaveByteForByte : Prop :=
  ∀ s : State,
    let after := fun m : Bytes =>
      { s with outputs := s.outputs ++ [if s.portOpen then .tx m else .log .portNotOpen] }
    exec .txStatusReq s = .next (after (gnxf s.channel [0x05, 0x00, 0x01] 0x42)) ∧
    exec (.txNamesReq .factory) s = .next (after (gnxf s.channel [0x12, 0x00, 0x00] 0x54)) ∧
    exec (.txNamesReq .user) s = .next (after (gnxf s.channel [0x12, 0x00, 0x01] 0x55)) ∧
    exec .txAmpcabReq s = .next (after (gnxf s.channel [0x07] 0x41)) ∧
    exec .txCurnameReq s = .next (after (gnxf s.channel [0x20] 0x66)) ∧
    exec .txKeepalive s = .next (after (gnxf s.channel [0x76] 0x30)) ∧
    exec .txAck s = .next (after (gnxf s.channel [0x7E, 0x00, 0x21] 0x19)) ∧
    (∀ i : Fin 8, exec (.txUpload i) s =
      .next (if 1 ≤ s.uploadPhase.toNat ∧ s.uploadPhase.toNat ≤ 7 then
        after (gnxfOf s.channel (blockOf s.uploadBlocks i).cmd (blockOf s.uploadBlocks i).raw) else s)) ∧
    exec .txEnquiry s = .next { s with outputs := s.outputs ++ [.tx cfg.enquiryFrame] }

/-- R31, R38. The state after reset has biteCount below the limit, uploadPhase at most 7, the locked channel if there
is a lock, no upload without a connection, no connection without an open port, the registers of a closed port idle, no
output emitted, and the label DISCONNECTED. -/
def Obligations.ResetStateIsASafeSession : Prop :=
  SessionOk State.reset ∧ ClosedIdle State.reset ∧ State.reset.outputs = [] ∧
    label State.reset = .disconnected

/-- R24, R27, R28. For every state that meets the session invariant, whatever is pending, if a step answers a next
state then that state meets it too: biteCount below WD_LIMIT, uploadPhase at most 7, the channel equal to a set lock,
an upload in progress only while connected, and connected only while the port is open. -/
def Obligations.EveryStepKeepsTheSessionSafe : Prop :=
  ∀ s t : State, SessionOk s → step s = .next t → SessionOk t

/-- R204, R21. FullResync called alone is left out: the model runs it as written on a closed port too, log 9. -/
def Obligations.ClosedPortStaysIdle : Prop :=
  ∀ (i : Instr) (s t : State), ClosedIdle s → i ≠ .fullResync → exec i s = .next t → ClosedIdle t

/-- R72, R69. The queue and the kept output list are the model's, log 1 and log 2. -/
def Obligations.StepsOnlyAppendToTheOutputs : Prop :=
  ∀ s t : State, step s = .next t →
    (∃ emitted : List Output, t.outputs = s.outputs ++ emitted) ∧ t.pending = s.pending.tail

/-- R22, R213. For every instruction and state, if connected is 0 before and 1 in the next state, the instruction is
RX.ENQACK1 or RX.ENQACK2, or the event RX with a message that decodes to one of them. -/
def Obligations.OnlyTheEnquiryAckConnects : Prop :=
  ∀ (i : Instr) (s t : State), exec i s = .next t → s.connected = false → t.connected = true →
    ∃ (ch : Seven) (wire : Bytes),
      i = .rxEnqack1 ch wire ∨ i = .rxEnqack2 ch wire ∨
      ∃ m : Bytes, i = .rx m ∧ (decodeInbound m = .rxEnqack1 ch wire ∨ decodeInbound m = .rxEnqack2 ch wire)

/-- R250, R351. For every instruction and state, if uploadPhase is 0 before and not 0 in the next state, the
instruction is UPLOAD.START, the next phase is 1, and uploadBlocks holds the eight operands. -/
def Obligations.OnlyUploadStartBeginsAnUpload : Prop :=
  ∀ (i : Instr) (s t : State), exec i s = .next t → s.uploadPhase = 0 → t.uploadPhase ≠ 0 →
    ∃ b1 b2 b3 b4 b5 b6 b7 b8 : HostBlock, i = .uploadStart b1 b2 b3 b4 b5 b6 b7 b8 ∧ t.uploadPhase = 1 ∧
      t.uploadBlocks = ⟨latch b1, latch b2, latch b3, latch b4, latch b5, latch b6, latch b7, latch b8⟩

/-- R90, R177, R201. For every state whose outputs transmit only the enquiry and frames that FRAME.PARSE accepts with
this device's ids, if a step answers a next state, its outputs do so too: no step transmits a byte with bit 7 set
inside a frame or a wrong checksum. -/
def Obligations.EveryTransmittedMessageIsAValidFrame : Prop :=
  ∀ s t : State, TransmitsFrames s.outputs → step s = .next t → TransmitsFrames t.outputs

/-- R201, R204, R205. FullResync and TX.ENQUIRY called alone are left out: the model runs them as written on a closed
port too, log 8 and log 9. -/
def Obligations.ClosedPortTransmitsNothing : Prop :=
  ∀ (i : Instr) (s t : State), s.portOpen = false → i ≠ .portOpen → i ≠ .fullResync → i ≠ .txEnquiry →
    exec i s = .next t →
    ∃ emitted : List Output, t.outputs = s.outputs ++ emitted ∧ ∀ m : Bytes, Output.tx m ∉ emitted

/-- R316, R200. The refusal of what is no item of the interface is the model's, log 24. -/
def Obligations.EveryInstructionAnswersANextState : Prop :=
  (∀ (i : Instr) (s : State), ∃ t : State, exec i s = .next t) ∧
    (∀ s : State, (∀ item ∈ s.pending.head?, ∃ i : Instr, decode item = .ok i) → ∃ t : State, step s = .next t)

/-- R200, R70. The queue is the model's, log 1 and log 23. -/
def Obligations.StepRunsTheDecodedItem : Prop :=
  (∀ (s : State) (item : Item) (rest : List Item) (i : Instr), s.pending = item :: rest → decode item = .ok i →
      step s = exec i { s with pending := rest }) ∧
    (∀ s : State, s.pending = [] → step s = .next s)

/-- R90, R95, R99, R102, R108, R110. The bytes 0A, 81 C8, 82 07 D0, 83 01 00 00, 80, 84, the group 50 02 07 50, the
frame F0 00 00 10 03 56 02 47 F7, the frame F0 00 00 10 00 56 55 13 F7, the message C0 05, the frame F0 00 00 10 00 56
05 00 01 42 F7 as sent, and the line VARINT.ENC 2000 decode to their instructions. -/
def Obligations.SampleWordsDecodeAsWritten : Prop :=
  decode (.rawBytes [0x0A]) = .ok (.varintV1 0x0A) ∧
    decode (.rawBytes [0x81, 0xC8]) = .ok (.varintV2 0xC8) ∧
    decode (.rawBytes [0x82, 0x07, 0xD0]) = .ok (.varintV3 0x07D0) ∧
    decode (.rawBytes [0x83, 0x01, 0x00, 0x00]) = .ok (.varintV4 0x010000) ∧
    decode (.rawBytes [0x80]) = .ok .varintIllegal0 ∧
    decode (.rawBytes [0x84]) = .ok (.varintIllegalN 0x04) ∧
    decode (.wireBytes [0x50, 0x02, 0x07, 0x50]) = .ok (.packgroup 0x50 [0x02, 0x07, 0x50]) ∧
    decode (.inbound [0xF0, 0x00, 0x00, 0x10, 0x03, 0x56, 0x02, 0x47, 0xF7]) = .ok (.rxEnqack2 0x03 []) ∧
    decode (.inbound [0xF0, 0x00, 0x00, 0x10, 0x00, 0x56, 0x55, 0x13, 0xF7]) = .ok (.rxUnrec 0x55 0x00 []) ∧
    decode (.inbound [0xC0, 0x05]) = .ok (.rxPassthru [0xC0, 0x05]) ∧
    decode (.outbound [0xF0, 0x00, 0x00, 0x10, 0x00, 0x56, 0x05, 0x00, 0x01, 0x42, 0xF7]) = .ok .txStatusReq ∧
    decode (.call .varintEnc [.num 2000]) = .ok (.varintEnc 2000)

/-- R90, R95, R99, R102, R103, R111. For every well-formed instruction, with every operand at every value its row
admits, and for every channel byte of a frame the block sends, decoding the encoded item gives the instruction back.
-/
def Obligations.DecodeInvertsEncode : Prop :=
  ∀ (ch : Seven) (i : Instr), WellFormed i → decode (encode ch i) = .ok i

/-- R233. Under every instance of the OPEN parameters, with a channel lock or none (the machine's own functions, run
under that configuration), from every state, the events PORT.OPEN, an enquiry acknowledgement of command 01 or 02 with
any wire payload of 7-bit values, a status, a bank 0 and a bank 1 names response, an amp/cab response, a current-name
response, a dump and an end of dump with any wire payload of 7-bit values, received on one channel, the payloads that
are read parsing, give a state labelled CONNECTED_IDLE whose new transmitted messages are exactly those seven, in that
order, all but the enquiry on that channel, or on the channel the block held before when a lock is set. -/
def Obligations.HandshakeIssuesItsRequestsInOrder : Prop :=
  ∀ (enquiry : Bytes) (parseStatus parsePatchChange : Bytes → Option (Byte × Byte))
      (parseNames : Bytes → Option (Byte × List Text)) (parsePatchName : Bytes → Option Text)
      (walk : Bytes → WalkVerdict) (lock : Option Seven),
    let c : Cfg := { cfg with
      channelLock := lock
      enquiryFrame := enquiry
      parseStatus := parseStatus
      parsePatchChange := parsePatchChange
      parseNames := parseNames
      parsePatchName := parsePatchName
      patchDumpWalk := walk }
    ∀ (ch ack : Seven) (s : State) (ackWire status factory user ampcab name dump endWire : Bytes) (bank number : Byte)
      (factoryNames userNames : List Text) (amps cabs : List NameEntry) (text : Text) (pos pos' : Nat),
    ack = 0x01 ∨ ack = 0x02 → (∀ b ∈ ackWire ++ endWire, b.toNat < 0x80) →
    parseStatus status = some (bank, number) → parseNames factory = some (0x00, factoryNames) →
    parseNames user = some (0x01, userNames) → parsePatchName name = some text → walk dump = .ok →
    nameList (.payloadMalformed 0x08) ampcab 0 = .ok (amps, pos) →
    nameList (.payloadMalformed 0x08) ampcab pos = .ok (cabs, pos') →
    let events : List (State → State) :=
      [openPort c, rx c (gnxfWire ch ack ackWire), rx c (gnxfOf ch 0x06 status), rx c (gnxfOf ch 0x13 factory),
        rx c (gnxfOf ch 0x13 user), rx c (gnxfOf ch 0x08 ampcab), rx c (gnxfOf ch 0x21 name),
        rx c (gnxfOf ch 0x24 dump), rx c (gnxfWire ch 0x22 endWire)]
    let t := events.foldl (fun state event => event state) s
    let adopted := if lock = none then ch else s.channel
    label t = .connectedIdle ∧ t.channel = adopted ∧ t.currentPatch = ⟨bank, number, text⟩ ∧
      t.userPatchNames = userNames ∧
      ∃ emitted : List Output, t.outputs = s.outputs ++ emitted ∧
        emitted.filterMap (fun o => match o with
          | .tx m => some m
          | _ => none) =
          [enquiry, gnxf adopted [0x05, 0x00, 0x01] 0x42, gnxf adopted [0x12, 0x00, 0x00] 0x54,
            gnxf adopted [0x12, 0x00, 0x01] 0x55, gnxf adopted [0x07] 0x41, gnxf adopted [0x20] 0x66,
            gnxf adopted [0x7E, 0x00, 0x21] 0x19]
end

