-- ==== Sys2Proof/Laws/Codec.lean ====
section
/-! SUPPORT. What the codec's helpers do: 7-bit values, the checksum, PACK and UNPACK one group at a time, and the frame of a 7-bit channel
and command. -/

namespace Sys2Proof.Machine

@[simp] theorem cfg_group : cfg.group = 7 := rfl
@[simp] theorem cfg_cksumFirst : cfg.cksumFirst = 1 := rfl
@[simp] theorem cfg_partialAlign : cfg.partialAlign = .left := rfl
@[simp] theorem cfg_wdLimit : cfg.wdLimit = 5 := rfl
@[simp] theorem cfg_varintMax : cfg.varintMax = 0xFFFFFF := rfl
@[simp] theorem cfg_deviceId : cfg.deviceId = 0x56 := rfl
@[simp] theorem cfg_mnfrId : cfg.mnfrId = ⟨0x00, 0x00, 0x10⟩ := rfl

theorem is7_iff (b : Byte) : is7 b = true ↔ b.toNat < 0x80 := by
  simp [is7, BitVec.msb_eq_decide]

@[simp] theorem is7_wide (b : Seven) : is7 (wide b) = true := by
  rw [is7_iff]; simp only [wide, BitVec.toNat_setWidth]; have := b.isLt; omega

@[simp] theorem low7_wide (b : Seven) : low7 (wide b) = b := by
  apply BitVec.eq_of_toNat_eq; simp only [low7, wide, BitVec.toNat_setWidth]; have := b.isLt; omega

theorem wide_low7 (b : Byte) (h : is7 b = true) : wide (low7 b) = b := by
  rw [is7_iff] at h
  apply BitVec.eq_of_toNat_eq; simp only [low7, wide, BitVec.toNat_setWidth]; omega

@[simp] theorem all7_nil : all7 [] = true := rfl

@[simp] theorem all7_cons (b : Byte) (bs : Bytes) : all7 (b :: bs) = (is7 b && all7 bs) := rfl

@[simp] theorem all7_append (xs ys : Bytes) : all7 (xs ++ ys) = (all7 xs && all7 ys) := by
  simp [all7, List.all_append]

@[simp] theorem all7_map_wide (data : List Seven) : all7 (data.map wide) = true := by
  simp [all7]

@[simp] theorem cksum_nil : cksum [] = 0 := rfl

theorem foldl_xor (bs : Bytes) (a : Byte) : bs.foldl (· ^^^ ·) a = a ^^^ cksum bs := by
  induction bs generalizing a with
  | nil => simp [cksum]
  | cons b bs ih => rw [cksum, List.foldl_cons, List.foldl_cons, ih, ih (0 ^^^ b)]; simp [BitVec.xor_assoc]

@[simp] theorem cksum_cons (b : Byte) (bs : Bytes) : cksum (b :: bs) = b ^^^ cksum bs := by
  rw [cksum, List.foldl_cons, foldl_xor]; simp

@[simp] theorem cksum_append (xs ys : Bytes) : cksum (xs ++ ys) = cksum xs ^^^ cksum ys := by
  induction xs with
  | nil => simp
  | cons x xs ih => simp [ih, BitVec.xor_assoc]

theorem is7_xor (a b : Byte) (ha : is7 a = true) (hb : is7 b = true) : is7 (a ^^^ b) = true := by
  simp [is7] at *; simp [ha, hb]

theorem is7_cksum (bs : Bytes) (h : all7 bs = true) : is7 (cksum bs) = true := by
  induction bs with
  | nil => rfl
  | cons b bs ih =>
    simp only [all7_cons, Bool.and_eq_true] at h
    rw [cksum_cons]; exact is7_xor _ _ h.1 (ih h.2)

theorem packGroups_enough (c : Cfg) (hg : 0 < c.group) :
    ∀ (n m : Nat) (data : Bytes), data.length ≤ n → data.length ≤ m → packGroups c n data = packGroups c m data
  | 0, m, data, hn, _ => by
    have : data = [] := List.length_eq_zero_iff.mp (Nat.le_zero.mp hn)
    subst this; cases m <;> rfl
  | n + 1, 0, data, _, hm => by
    have : data = [] := List.length_eq_zero_iff.mp (Nat.le_zero.mp hm)
    subst this; rfl
  | _ + 1, _ + 1, [], _, _ => rfl
  | n + 1, m + 1, b :: bs, hn, hm => by
    have h : ((b :: bs).drop c.group).length ≤ n ∧ ((b :: bs).drop c.group).length ≤ m := by
      simp at *; omega
    simp only [packGroups, packGroups_enough c hg n m _ h.1 h.2]

@[simp] theorem pack_nil (c : Cfg) : pack c [] = [] := rfl

/-- R150: the first group, and then the rest. -/
theorem pack_groups (data : Bytes) (h : data ≠ []) :
    pack cfg data = packGroup .left (data.take 7) ++ pack cfg (data.drop 7) := by
  obtain ⟨b, bs, rfl⟩ := List.exists_cons_of_ne_nil h
  rw [pack, pack, List.length_cons, packGroups]
  congr 1
  exact packGroups_enough cfg (by decide) _ _ _ (by simp) (Nat.le_refl _)

theorem is7_headerFrom (k j : Nat) (d : Bytes) : is7 (headerFrom .left k j d) = true := by
  induction d generalizing j with
  | nil => simp only [headerFrom]; decide
  | cons b bs ih =>
    have h : is7 ((b >>> 7) <<< (6 - j)) = true := by
      rw [is7_iff]
      have := b.isLt
      simp only [BitVec.toNat_shiftLeft, BitVec.toNat_ushiftRight, Nat.shiftRight_eq_div_pow, Nat.shiftLeft_eq]
      have hb : b.toNat / 2 ^ 7 ≤ 1 := by omega
      have h2 : (2 : Nat) ^ (6 - j) ≤ 2 ^ 6 := Nat.pow_le_pow_right (by decide) (by omega)
      have : b.toNat / 2 ^ 7 * 2 ^ (6 - j) ≤ 1 * 2 ^ 6 := Nat.mul_le_mul hb h2
      omega
    have hj := ih (j + 1)
    simp only [is7, Bool.not_eq_true'] at h hj
    simp only [headerFrom, flagBit, is7, BitVec.msb_or, h, hj]
    rfl

theorem all7_mask (d : Bytes) : all7 (d.map (· &&& 0x7F)) = true := by
  induction d with
  | nil => rfl
  | cons b bs ih =>
    have h : is7 (b &&& 0x7F) = true := by
      rw [is7, BitVec.msb_and, show BitVec.msb (0x7F : Byte) = false from by decide, Bool.and_false]; rfl
    rw [List.map_cons, all7_cons, h, ih]; rfl

theorem all7_packGroup (d : Bytes) : all7 (packGroup .left d) = true := by
  rw [packGroup, all7_cons, is7_headerFrom, all7_mask]; rfl

/-- R150: "Every output byte is a 7-bit value." -/
theorem all7_pack (data : Bytes) : all7 (pack cfg data) = true := by
  induction hn : data.length using Nat.strong_induction_on generalizing data with
  | _ n ih =>
    by_cases h : data = []
    · simp [h]
    · rw [pack_groups data h, all7_append, all7_packGroup, Bool.true_and]
      refine ih _ ?_ _ rfl
      have := List.length_pos_of_ne_nil h
      simp; omega

theorem unpackGroups_enough (c : Cfg) (hg : 0 < c.group) :
    ∀ (n m i : Nat) (w : Bytes), w.length ≤ n → w.length ≤ m → unpackGroups c n i w = unpackGroups c m i w
  | 0, m, _, w, hn, _ => by
    have : w = [] := List.length_eq_zero_iff.mp (Nat.le_zero.mp hn)
    subst this; cases m <;> rfl
  | _ + 1, 0, _, w, _, hm => by
    have : w = [] := List.length_eq_zero_iff.mp (Nat.le_zero.mp hm)
    subst this; rfl
  | _ + 1, _ + 1, _, [], _, _ => rfl
  | n + 1, m + 1, i, h :: rest, hn, hm => by
    have hl : (rest.drop c.group).length ≤ n ∧ (rest.drop c.group).length ≤ m := by
      simp at *; omega
    simp only [unpackGroups, unpackGroups_enough c hg n m _ _ hl.1 hl.2]

@[simp] theorem unpack_nil (c : Cfg) : unpack c [] = .ok [] := rfl

@[simp] theorem frameBody_length (c : Cfg) (ch cmd : Byte) (wire : Bytes) :
    (frameBody c ch cmd wire).length = wire.length + 6 := by
  simp [frameBody]

@[simp] theorem frameBytes_length (c : Cfg) (ch cmd : Byte) (wire : Bytes) :
    (frameBytes c ch cmd wire).length = wire.length + 9 := by
  simp [frameBytes]

theorem frameBytes_cfg (ch cmd : Byte) (wire : Bytes) :
    frameBytes cfg ch cmd wire = 0xF0 :: (frameBody cfg ch cmd wire ++ [cksum (frameBody cfg ch cmd wire), 0xF7]) := by
  simp [frameBytes]

/-- R173: with a 7-bit channel and command FRAME.BUILDP does not fail. -/
theorem frameBuildP_seven (ch cmd : Seven) (raw : Bytes) :
    frameBuildP cfg (wide ch) (wide cmd) raw = .ok (frameBytes cfg (wide ch) (wide cmd) (pack cfg raw)) := by
  have h : all7 (frameBody cfg (wide ch) (wide cmd) (pack cfg raw)) = true := by
    simp [frameBody, all7_pack]; decide
  simp [frameBuildP, frameBuild, h]

@[simp] theorem inCommand_inCode (k : InCmd) : inCommand (wide (inCode k)) = some k := by
  cases k <;> rfl

end Sys2Proof.Machine
end

