-- ==== Sys2Proof/Laws/State.lean ====
section
/-! SUPPORT. One lemma per field of the state for every shared update (spec/10_state.md R20, the operations of Sys2Proof/Machine/Ops.lean), so
that no later proof unfolds one. -/

namespace Sys2Proof.Machine

@[simp] theorem State.emit_portOpen (s : State) (o : Output) : (s.emit o).portOpen = s.portOpen := rfl
@[simp] theorem State.emit_connected (s : State) (o : Output) : (s.emit o).connected = s.connected := rfl
@[simp] theorem State.emit_resyncing (s : State) (o : Output) : (s.emit o).resyncing = s.resyncing := rfl
@[simp] theorem State.emit_uploadPhase (s : State) (o : Output) : (s.emit o).uploadPhase = s.uploadPhase := rfl
@[simp] theorem State.emit_currentPatch (s : State) (o : Output) : (s.emit o).currentPatch = s.currentPatch := rfl
@[simp] theorem State.emit_userPatchNames (s : State) (o : Output) : (s.emit o).userPatchNames = s.userPatchNames := rfl
@[simp] theorem State.emit_channel (s : State) (o : Output) : (s.emit o).channel = s.channel := rfl
@[simp] theorem State.emit_biteCount (s : State) (o : Output) : (s.emit o).biteCount = s.biteCount := rfl
@[simp] theorem State.emit_uploadBlocks (s : State) (o : Output) : (s.emit o).uploadBlocks = s.uploadBlocks := rfl
@[simp] theorem State.emit_outputs (s : State) (o : Output) : (s.emit o).outputs = s.outputs ++ [o] := rfl
@[simp] theorem State.emit_pending (s : State) (o : Output) : (s.emit o).pending = s.pending := rfl
@[simp] theorem State.emit_returned (s : State) (o : Output) : (s.emit o).returned = s.returned := rfl
@[simp] theorem State.emit_freeCount (s : State) (o : Output) : (s.emit o).freeCount = s.freeCount := rfl

@[simp] theorem State.give_portOpen (s : State) (r : Result) : (s.give r).portOpen = s.portOpen := rfl
@[simp] theorem State.give_connected (s : State) (r : Result) : (s.give r).connected = s.connected := rfl
@[simp] theorem State.give_resyncing (s : State) (r : Result) : (s.give r).resyncing = s.resyncing := rfl
@[simp] theorem State.give_uploadPhase (s : State) (r : Result) : (s.give r).uploadPhase = s.uploadPhase := rfl
@[simp] theorem State.give_currentPatch (s : State) (r : Result) : (s.give r).currentPatch = s.currentPatch := rfl
@[simp] theorem State.give_userPatchNames (s : State) (r : Result) : (s.give r).userPatchNames = s.userPatchNames := rfl
@[simp] theorem State.give_channel (s : State) (r : Result) : (s.give r).channel = s.channel := rfl
@[simp] theorem State.give_biteCount (s : State) (r : Result) : (s.give r).biteCount = s.biteCount := rfl
@[simp] theorem State.give_uploadBlocks (s : State) (r : Result) : (s.give r).uploadBlocks = s.uploadBlocks := rfl
@[simp] theorem State.give_outputs (s : State) (r : Result) : (s.give r).outputs = s.outputs := rfl
@[simp] theorem State.give_pending (s : State) (r : Result) : (s.give r).pending = s.pending := rfl
@[simp] theorem State.give_returned (s : State) (r : Result) : (s.give r).returned = some r := rfl
@[simp] theorem State.give_freeCount (s : State) (r : Result) : (s.give r).freeCount = s.freeCount := rfl

@[simp] theorem State.feed_portOpen (s : State) : s.feed.portOpen = s.portOpen := rfl
@[simp] theorem State.feed_connected (s : State) : s.feed.connected = s.connected := rfl
@[simp] theorem State.feed_resyncing (s : State) : s.feed.resyncing = s.resyncing := rfl
@[simp] theorem State.feed_uploadPhase (s : State) : s.feed.uploadPhase = s.uploadPhase := rfl
@[simp] theorem State.feed_currentPatch (s : State) : s.feed.currentPatch = s.currentPatch := rfl
@[simp] theorem State.feed_userPatchNames (s : State) : s.feed.userPatchNames = s.userPatchNames := rfl
@[simp] theorem State.feed_channel (s : State) : s.feed.channel = s.channel := rfl
@[simp] theorem State.feed_biteCount (s : State) : s.feed.biteCount = 0 := rfl
@[simp] theorem State.feed_uploadBlocks (s : State) : s.feed.uploadBlocks = s.uploadBlocks := rfl
@[simp] theorem State.feed_outputs (s : State) : s.feed.outputs = s.outputs := rfl
@[simp] theorem State.feed_pending (s : State) : s.feed.pending = s.pending := rfl
@[simp] theorem State.feed_returned (s : State) : s.feed.returned = s.returned := rfl
@[simp] theorem State.feed_freeCount (s : State) : s.feed.freeCount = s.freeCount := rfl

@[simp] theorem noticeDisconnect_portOpen (s : State) :
    (noticeDisconnect s).portOpen = s.portOpen := by
  unfold noticeDisconnect; split <;> simp

@[simp] theorem noticeDisconnect_connected (s : State) :
    (noticeDisconnect s).connected = s.connected := by
  unfold noticeDisconnect; split <;> simp

@[simp] theorem noticeDisconnect_resyncing (s : State) :
    (noticeDisconnect s).resyncing = s.resyncing := by
  unfold noticeDisconnect; split <;> simp

@[simp] theorem noticeDisconnect_uploadPhase (s : State) :
    (noticeDisconnect s).uploadPhase = s.uploadPhase := by
  unfold noticeDisconnect; split <;> simp

@[simp] theorem noticeDisconnect_currentPatch (s : State) :
    (noticeDisconnect s).currentPatch = s.currentPatch := by
  unfold noticeDisconnect; split <;> simp

@[simp] theorem noticeDisconnect_userPatchNames (s : State) :
    (noticeDisconnect s).userPatchNames = s.userPatchNames := by
  unfold noticeDisconnect; split <;> simp

@[simp] theorem noticeDisconnect_channel (s : State) :
    (noticeDisconnect s).channel = s.channel := by
  unfold noticeDisconnect; split <;> simp

@[simp] theorem noticeDisconnect_biteCount (s : State) :
    (noticeDisconnect s).biteCount = s.biteCount := by
  unfold noticeDisconnect; split <;> simp

@[simp] theorem noticeDisconnect_uploadBlocks (s : State) :
    (noticeDisconnect s).uploadBlocks = s.uploadBlocks := by
  unfold noticeDisconnect; split <;> simp

@[simp] theorem noticeDisconnect_outputs (s : State) :
    (noticeDisconnect s).outputs = s.outputs ++ (if s.connected then [.notify .disconnected] else []) := by
  unfold noticeDisconnect; split <;> simp

@[simp] theorem noticeDisconnect_pending (s : State) :
    (noticeDisconnect s).pending = s.pending := by
  unfold noticeDisconnect; split <;> simp

@[simp] theorem noticeDisconnect_returned (s : State) :
    (noticeDisconnect s).returned = s.returned := by
  unfold noticeDisconnect; split <;> simp

@[simp] theorem noticeDisconnect_freeCount (s : State) :
    (noticeDisconnect s).freeCount = s.freeCount := by
  unfold noticeDisconnect; split <;> simp

@[simp] theorem sendEnquiry_portOpen (c : Cfg) (s : State) :
    (sendEnquiry c s).portOpen = s.portOpen := rfl

@[simp] theorem sendEnquiry_connected (c : Cfg) (s : State) :
    (sendEnquiry c s).connected = s.connected := rfl

@[simp] theorem sendEnquiry_resyncing (c : Cfg) (s : State) :
    (sendEnquiry c s).resyncing = s.resyncing := rfl

@[simp] theorem sendEnquiry_uploadPhase (c : Cfg) (s : State) :
    (sendEnquiry c s).uploadPhase = s.uploadPhase := rfl

@[simp] theorem sendEnquiry_currentPatch (c : Cfg) (s : State) :
    (sendEnquiry c s).currentPatch = s.currentPatch := rfl

@[simp] theorem sendEnquiry_userPatchNames (c : Cfg) (s : State) :
    (sendEnquiry c s).userPatchNames = s.userPatchNames := rfl

@[simp] theorem sendEnquiry_channel (c : Cfg) (s : State) :
    (sendEnquiry c s).channel = s.channel := rfl

@[simp] theorem sendEnquiry_biteCount (c : Cfg) (s : State) :
    (sendEnquiry c s).biteCount = s.biteCount := rfl

@[simp] theorem sendEnquiry_uploadBlocks (c : Cfg) (s : State) :
    (sendEnquiry c s).uploadBlocks = s.uploadBlocks := rfl

@[simp] theorem sendEnquiry_outputs (c : Cfg) (s : State) :
    (sendEnquiry c s).outputs = s.outputs ++ [.tx c.enquiryFrame] := rfl

@[simp] theorem sendEnquiry_pending (c : Cfg) (s : State) :
    (sendEnquiry c s).pending = s.pending := rfl

@[simp] theorem sendEnquiry_returned (c : Cfg) (s : State) :
    (sendEnquiry c s).returned = s.returned := rfl

@[simp] theorem sendEnquiry_freeCount (c : Cfg) (s : State) :
    (sendEnquiry c s).freeCount = s.freeCount := rfl

@[simp] theorem fullResync_portOpen (c : Cfg) (s : State) :
    (fullResync c s).portOpen = s.portOpen := by
  simp [fullResync]

@[simp] theorem fullResync_connected (c : Cfg) (s : State) :
    (fullResync c s).connected = false := by
  simp [fullResync]

@[simp] theorem fullResync_resyncing (c : Cfg) (s : State) :
    (fullResync c s).resyncing = true := by
  simp [fullResync]

@[simp] theorem fullResync_uploadPhase (c : Cfg) (s : State) :
    (fullResync c s).uploadPhase = 0 := by
  simp [fullResync]

@[simp] theorem fullResync_currentPatch (c : Cfg) (s : State) :
    (fullResync c s).currentPatch = s.currentPatch := by
  simp [fullResync]

@[simp] theorem fullResync_userPatchNames (c : Cfg) (s : State) :
    (fullResync c s).userPatchNames = s.userPatchNames := by
  simp [fullResync]

@[simp] theorem fullResync_channel (c : Cfg) (s : State) :
    (fullResync c s).channel = s.channel := by
  simp [fullResync]

@[simp] theorem fullResync_biteCount (c : Cfg) (s : State) :
    (fullResync c s).biteCount = 0 := by
  simp [fullResync]

@[simp] theorem fullResync_uploadBlocks (c : Cfg) (s : State) :
    (fullResync c s).uploadBlocks = s.uploadBlocks := by
  simp [fullResync]

@[simp] theorem fullResync_outputs (c : Cfg) (s : State) :
    (fullResync c s).outputs = s.outputs ++ (if s.connected then [.notify .disconnected] else []) ++ [.tx c.enquiryFrame] := by
  simp [fullResync]

@[simp] theorem fullResync_pending (c : Cfg) (s : State) :
    (fullResync c s).pending = s.pending := by
  simp [fullResync]

@[simp] theorem fullResync_returned (c : Cfg) (s : State) :
    (fullResync c s).returned = s.returned := by
  simp [fullResync]

@[simp] theorem fullResync_freeCount (c : Cfg) (s : State) :
    (fullResync c s).freeCount = s.freeCount := by
  simp [fullResync]

@[simp] theorem abort_portOpen (c : Cfg) (x : ErrorCode) (s : State) :
    (abort c x s).portOpen = s.portOpen := rfl

@[simp] theorem abort_connected (c : Cfg) (x : ErrorCode) (s : State) :
    (abort c x s).connected = s.connected := rfl

@[simp] theorem abort_resyncing (c : Cfg) (x : ErrorCode) (s : State) :
    (abort c x s).resyncing = false := rfl

@[simp] theorem abort_uploadPhase (c : Cfg) (x : ErrorCode) (s : State) :
    (abort c x s).uploadPhase = 0 := rfl

@[simp] theorem abort_currentPatch (c : Cfg) (x : ErrorCode) (s : State) :
    (abort c x s).currentPatch = s.currentPatch := rfl

@[simp] theorem abort_userPatchNames (c : Cfg) (x : ErrorCode) (s : State) :
    (abort c x s).userPatchNames = s.userPatchNames := rfl

@[simp] theorem abort_channel (c : Cfg) (x : ErrorCode) (s : State) :
    (abort c x s).channel = s.channel := rfl

@[simp] theorem abort_biteCount (c : Cfg) (x : ErrorCode) (s : State) :
    (abort c x s).biteCount = s.biteCount := rfl

@[simp] theorem abort_uploadBlocks (c : Cfg) (x : ErrorCode) (s : State) :
    (abort c x s).uploadBlocks = s.uploadBlocks := rfl

@[simp] theorem abort_outputs (c : Cfg) (x : ErrorCode) (s : State) :
    (abort c x s).outputs = s.outputs ++ [.alert .protocolViolation x (c.alertTitle x) (c.alertText x)] := rfl

@[simp] theorem abort_pending (c : Cfg) (x : ErrorCode) (s : State) :
    (abort c x s).pending = s.pending := rfl

@[simp] theorem abort_returned (c : Cfg) (x : ErrorCode) (s : State) :
    (abort c x s).returned = s.returned := rfl

@[simp] theorem abort_freeCount (c : Cfg) (x : ErrorCode) (s : State) :
    (abort c x s).freeCount = s.freeCount := rfl

@[simp] theorem send_portOpen (c : Cfg) (cmd : Seven) (raw : Bytes) (s : State) :
    (send c cmd raw s).portOpen = s.portOpen := by
  unfold send; split <;> [split <;> rfl; rfl]

@[simp] theorem send_connected (c : Cfg) (cmd : Seven) (raw : Bytes) (s : State) :
    (send c cmd raw s).connected = s.connected := by
  unfold send; split <;> [split <;> rfl; rfl]

@[simp] theorem send_resyncing (c : Cfg) (cmd : Seven) (raw : Bytes) (s : State) :
    (send c cmd raw s).resyncing = s.resyncing := by
  unfold send; split <;> [split <;> rfl; rfl]

@[simp] theorem send_uploadPhase (c : Cfg) (cmd : Seven) (raw : Bytes) (s : State) :
    (send c cmd raw s).uploadPhase = s.uploadPhase := by
  unfold send; split <;> [split <;> rfl; rfl]

@[simp] theorem send_currentPatch (c : Cfg) (cmd : Seven) (raw : Bytes) (s : State) :
    (send c cmd raw s).currentPatch = s.currentPatch := by
  unfold send; split <;> [split <;> rfl; rfl]

@[simp] theorem send_userPatchNames (c : Cfg) (cmd : Seven) (raw : Bytes) (s : State) :
    (send c cmd raw s).userPatchNames = s.userPatchNames := by
  unfold send; split <;> [split <;> rfl; rfl]

@[simp] theorem send_channel (c : Cfg) (cmd : Seven) (raw : Bytes) (s : State) :
    (send c cmd raw s).channel = s.channel := by
  unfold send; split <;> [split <;> rfl; rfl]

@[simp] theorem send_biteCount (c : Cfg) (cmd : Seven) (raw : Bytes) (s : State) :
    (send c cmd raw s).biteCount = s.biteCount := by
  unfold send; split <;> [split <;> rfl; rfl]

@[simp] theorem send_uploadBlocks (c : Cfg) (cmd : Seven) (raw : Bytes) (s : State) :
    (send c cmd raw s).uploadBlocks = s.uploadBlocks := by
  unfold send; split <;> [split <;> rfl; rfl]

@[simp] theorem send_pending (c : Cfg) (cmd : Seven) (raw : Bytes) (s : State) :
    (send c cmd raw s).pending = s.pending := by
  unfold send; split <;> [split <;> rfl; rfl]

@[simp] theorem send_returned (c : Cfg) (cmd : Seven) (raw : Bytes) (s : State) :
    (send c cmd raw s).returned = s.returned := by
  unfold send; split <;> [split <;> rfl; rfl]

@[simp] theorem send_freeCount (c : Cfg) (cmd : Seven) (raw : Bytes) (s : State) :
    (send c cmd raw s).freeCount = s.freeCount := by
  unfold send; split <;> [split <;> rfl; rfl]

end Sys2Proof.Machine
end

