-- ==== Sys2Proof/Laws/Session.lean ====
section
/-! SUPPORT. What each shared operation of the session can do, said once: Send, a raise inside a handler, the front end, the watchdog, and
one step. -/

namespace Sys2Proof.Machine

/-- R62, R90: the frame as the statements write it is the frame the block builds. -/
theorem gnxfWire_eq (ch cmd : Seven) (wire : Bytes) : gnxfWire ch cmd wire = frameBytes cfg (wide ch) (wide cmd) wire := by
  simp [gnxfWire, frameBytes_cfg, frameBody, cksum]

/-- R98: so is the frame of a raw payload. -/
theorem gnxfOf_eq (ch cmd : Seven) (raw : Bytes) :
    gnxfOf ch cmd raw = frameBytes cfg (wide ch) (wide cmd) (pack cfg raw) :=
  gnxfWire_eq ch cmd (pack cfg raw)

/-- R201: Send emits one output, the frame or the log line, and does nothing else. -/
theorem send_eq (cmd : Seven) (raw : Bytes) (s : State) :
    send cfg cmd raw s = s.emit
      (if s.portOpen then .tx (frameBytes cfg (wide s.channel) (wide cmd) (pack cfg raw)) else .log .portNotOpen) := by
  unfold send
  rw [frameBuildP_seven]
  split <;> simp_all

@[simp] theorem send_outputs (cmd : Seven) (raw : Bytes) (s : State) :
    (send cfg cmd raw s).outputs = s.outputs ++
      [if s.portOpen then .tx (frameBytes cfg (wide s.channel) (wide cmd) (pack cfg raw)) else .log .portNotOpen] := by
  rw [send_eq]; rfl

/-- R318: either the value was read and the handler went on, or the handler ended in Abort. -/
theorem orAbort_cases {α : Type} (c : Cfg) (r : Except ErrorCode α) (s : State) (go : α → State) :
    (∃ a, r = .ok a ∧ orAbort c r s go = go a) ∨ (∃ x, r = .error x ∧ orAbort c r s go = abort c x s) := by
  cases r with
  | ok a => exact .inl ⟨a, rfl, rfl⟩
  | error x => exact .inr ⟨x, rfl, rfl⟩

@[simp] theorem orAbort_ok {α : Type} (c : Cfg) (a : α) (s : State) (go : α → State) :
    orAbort c (.ok a) s go = go a := rfl

@[simp] theorem orAbort_error {α : Type} (c : Cfg) (x : ErrorCode) (s : State) (go : α → State) :
    orAbort c (.error x) s go = abort c x s := rfl

/-- R317, R318: an abort after the watchdog was fed, in terms of the state before the frame. -/
theorem abort_feed (x : ErrorCode) (s : State) : abort cfg x s.feed = abortedFrom s [] x := by
  simp [abort, abortedFrom, State.emit, State.feed]

theorem onFrame_open (c : Cfg) (cmd : Seven) (h : Cfg → ParsedFrame → State → State) (ch : Seven) (wire : Bytes)
    (s : State) (ho : s.portOpen = true) : onFrame c cmd h ch wire s = h c (parsedOf c cmd ch wire) s.feed := by
  simp [onFrame, ho]

theorem onFrame_closed (c : Cfg) (cmd : Seven) (h : Cfg → ParsedFrame → State → State) (ch : Seven) (wire : Bytes)
    (s : State) (hc : s.portOpen = false) : onFrame c cmd h ch wire s = s := by
  simp [onFrame, hc]

@[simp] theorem parsedOf_wire (c : Cfg) (cmd ch : Seven) (wire : Bytes) : (parsedOf c cmd ch wire).wire = wire := rfl

@[simp] theorem parsedOf_commandCode (c : Cfg) (cmd ch : Seven) (wire : Bytes) :
    (parsedOf c cmd ch wire).commandCode = wide cmd := rfl

@[simp] theorem parsedOf_midiChannel (c : Cfg) (cmd ch : Seven) (wire : Bytes) :
    (parsedOf c cmd ch wire).midiChannel = wide ch := rfl

/-- R210, R211: everything the front end can do. -/
theorem rx_cases (c : Cfg) (m : Bytes) (s : State) :
    (s.portOpen = false ∧ rx c m s = s) ∨
    (s.portOpen = true ∧ m = [] ∧ rx c m s = s.emit (.log .emptyMessage)) ∨
    (s.portOpen = true ∧ m ≠ [] ∧ m.head? ≠ some 0xF0 ∧ rx c m s = s.feed.emit (.dispatch (.passThrough m))) ∨
    (∃ x, s.portOpen = true ∧ m.head? = some 0xF0 ∧ frameParse c m = .error x ∧ rx c m s = s.emit (.log (.dropped x))) ∨
    (∃ p, s.portOpen = true ∧ m.head? = some 0xF0 ∧ frameParse c m = .ok p ∧ forThisDevice c p = false ∧
      rx c m s = s.emit (.log (.dropped .notForThisDevice))) ∨
    (∃ p, s.portOpen = true ∧ m.head? = some 0xF0 ∧ frameParse c m = .ok p ∧ forThisDevice c p = true ∧
      rx c m s = handle c p s.feed) := by
  cases ho : s.portOpen with
  | false => exact .inl ⟨rfl, by simp [rx, ho]⟩
  | true =>
    right
    cases m with
    | nil => exact .inl ⟨rfl, rfl, by simp [rx, ho]⟩
    | cons b bs =>
      right
      by_cases hb : b = 0xF0
      · subst hb
        right
        cases hp : frameParse c (0xF0 :: bs) with
        | error x => exact .inl ⟨x, rfl, rfl, rfl, by simp only [rx, ho, if_true, ne_eq, not_true_eq_false, if_false, hp]⟩
        | ok p =>
          right
          cases hd : forThisDevice c p with
          | false => exact .inl ⟨p, rfl, rfl, rfl, hd, by simp only [rx, ho, if_true, ne_eq, not_true_eq_false, if_false, hp, hd, Bool.false_eq_true]⟩
          | true => exact .inr ⟨p, rfl, rfl, rfl, hd, by simp only [rx, ho, if_true, ne_eq, not_true_eq_false, if_false, hp, hd]⟩
      · exact .inl ⟨rfl, by simp, by simpa using hb, by simp only [rx, ho, if_true, ne_eq, hb, not_false_eq_true, rxNonSysex]⟩

/-- R270: everything a tick can do. -/
theorem wdTick_cases (c : Cfg) (s : State) :
    (s.portOpen = false ∧ wdTick c s = s) ∨
    (s.portOpen = true ∧ c.wdLimit ≤ s.biteCount.toNat + 1 ∧ wdTick c s = fullResync c s) ∨
    (s.portOpen = true ∧ s.biteCount.toNat + 1 < c.wdLimit ∧
      wdTick c s = txKeepalive c { s with biteCount := BitVec.ofNat 3 (s.biteCount.toNat + 1) }) := by
  cases ho : s.portOpen with
  | false => exact .inl ⟨rfl, by simp [wdTick, ho]⟩
  | true =>
    right
    by_cases h : c.wdLimit ≤ s.biteCount.toNat + 1
    · exact .inl ⟨rfl, h, by simp [wdTick, ho, h]⟩
    · exact .inr ⟨rfl, by omega, by simp [wdTick, ho, h]⟩

/-- R250: an upload starts or is refused. -/
theorem uploadStart_cases (c : Cfg) (b1 b2 b3 b4 b5 b6 b7 b8 : HostBlock) (s : State) :
    (uploadMayStart s = true ∧ hostBlocksOk [b1, b2, b3, b4, b5, b6, b7, b8] = true ∧
      uploadStart c b1 b2 b3 b4 b5 b6 b7 b8 s =
        { txUpload c 0 { s with uploadBlocks :=
            ⟨latch b1, latch b2, latch b3, latch b4, latch b5, latch b6, latch b7, latch b8⟩ } with uploadPhase := 1 }) ∨
    uploadStart c b1 b2 b3 b4 b5 b6 b7 b8 s = s.emit (.log .uploadRefused) := by
  by_cases h : (uploadMayStart s && hostBlocksOk [b1, b2, b3, b4, b5, b6, b7, b8]) = true
  · exact .inl ⟨by simp_all, by simp_all, by simp [uploadStart, h]⟩
  · exact .inr (by simp [uploadStart, h])

/-- R252: an acknowledgement advances the upload, is inert, or aborts. -/
theorem handleAck_cases (c : Cfg) (p : ParsedFrame) (s : State) :
    (∃ sub, ackOperand c p = .ok sub ∧ uploadRuns s ∧
      awaitedSubcode c s.uploadPhase.toNat = some sub ∧ handleAck c p s = uploadAdvance c s.uploadPhase.toNat s) ∨
    (∃ sub, ackOperand c p = .ok sub ∧ handleAck c p s = s) ∨
    (∃ x, ackOperand c p = .error x ∧ handleAck c p s = abort c x s) := by
  unfold handleAck
  cases h : ackOperand c p with
  | error x => exact .inr (.inr ⟨x, rfl, rfl⟩)
  | ok sub =>
    by_cases hq : uploadRuns s ∧ awaitedSubcode c s.uploadPhase.toNat = some sub
    · exact .inl ⟨sub, rfl, hq.1, hq.2, by simp only [orAbort, if_pos hq]⟩
    · exact .inr (.inl ⟨sub, rfl, by simp only [orAbort, if_neg hq]⟩)

/-- R103: everything TX.UPLOAD run alone can do (log 32). -/
theorem execTxUpload_cases (i : Fin 8) (s : State) :
    (uploadRuns s ∧ execTxUpload i s = .next (txUpload cfg i s)) ∨ (¬ uploadRuns s ∧ execTxUpload i s = .next s) := by
  by_cases h : uploadRuns s
  · exact .inl ⟨h, by rw [execTxUpload, if_pos h]⟩
  · exact .inr ⟨h, by rw [execTxUpload, if_neg h]⟩

/-- R200: everything a step can do. -/
theorem step_cases (s : State) :
    (s.pending = [] ∧ step s = .next s) ∨
    (∃ item rest i, s.pending = item :: rest ∧ decode item = .ok i ∧ step s = exec i { s with pending := rest }) ∨
    (∃ item rest e, s.pending = item :: rest ∧ decode item = .error e ∧ step s = .refused (.notAnItem e)) := by
  unfold step
  cases hp : s.pending with
  | nil => exact .inl ⟨rfl, rfl⟩
  | cons item rest =>
    right
    cases hd : decode item with
    | ok i => exact .inl ⟨item, rest, i, rfl, hd, by simp [hd]⟩
    | error e => exact .inr ⟨item, rest, e, rfl, hd, by simp [hd]⟩

end Sys2Proof.Machine
end

