-- ==== Sys2Proof/Laws/Blocks.lean ====
section
/-! SUPPORT. R29 and R351: while `uploadPhase` is 0 nothing reads `uploadBlocks`, so any content may stand there "without changing any run". -/

namespace Sys2Proof.Machine

/-- The state with another content of `uploadBlocks`. -/
def State.withBlocks (s : State) (b : UploadBlocks) : State :=
  { s with uploadBlocks := b }

theorem State.emit_withBlocks (s : State) (b : UploadBlocks) (o : Output) :
    (s.withBlocks b).emit o = (s.emit o).withBlocks b := rfl

theorem State.give_withBlocks (s : State) (b : UploadBlocks) (r : Result) :
    (s.withBlocks b).give r = (s.give r).withBlocks b := rfl

/-- A choice that does not read `uploadBlocks` is made alike. -/
theorem ite_withBlocks {p : Prop} [Decidable p] {x y x' y' : State} {b : UploadBlocks} (hx : x' = x.withBlocks b)
    (hy : y' = y.withBlocks b) : (if p then x' else y') = (if p then x else y).withBlocks b := by
  split
  · exact hx
  · exact hy

theorem send_withBlocks (c : Cfg) (cmd : Seven) (raw : Bytes) (s : State) (b : UploadBlocks) :
    send c cmd raw (s.withBlocks b) = (send c cmd raw s).withBlocks b := by
  unfold send
  refine ite_withBlocks ?_ rfl
  change (match frameBuildP c (wide s.channel) (wide cmd) raw with
    | .ok m => _
    | .error x => _) = _
  cases frameBuildP c (wide s.channel) (wide cmd) raw <;> rfl

theorem send_alike {c : Cfg} {cmd : Seven} {raw : Bytes} {s t : State} {b : UploadBlocks} (h : t = s.withBlocks b) :
    send c cmd raw t = (send c cmd raw s).withBlocks b :=
  h ▸ send_withBlocks c cmd raw s b

theorem noticeDisconnect_withBlocks (s : State) (b : UploadBlocks) :
    noticeDisconnect (s.withBlocks b) = (noticeDisconnect s).withBlocks b :=
  ite_withBlocks rfl rfl

theorem fullResync_withBlocks (c : Cfg) (s : State) (b : UploadBlocks) :
    fullResync c (s.withBlocks b) = (fullResync c s).withBlocks b := by
  unfold fullResync
  rw [noticeDisconnect_withBlocks]
  rfl

theorem closePort_withBlocks (s : State) (b : UploadBlocks) :
    closePort (s.withBlocks b) = (closePort s).withBlocks b := by
  unfold closePort
  rw [noticeDisconnect_withBlocks]
  rfl

theorem abort_withBlocks (c : Cfg) (x : ErrorCode) (s : State) (b : UploadBlocks) :
    abort c x (s.withBlocks b) = (abort c x s).withBlocks b := rfl

/-- A handler goes on, or aborts, alike if what it does next does. -/
theorem orAbort_withBlocks {α : Type} (c : Cfg) (r : Except ErrorCode α) (s : State) (b : UploadBlocks)
    (go go' : α → State) (h : ∀ a, go' a = (go a).withBlocks b) :
    orAbort c r (s.withBlocks b) go' = (orAbort c r s go).withBlocks b := by
  cases r with
  | ok a => exact h a
  | error x => rfl

theorem enquiryAnswered_withBlocks (c : Cfg) (p : ParsedFrame) (s : State) (b : UploadBlocks) :
    enquiryAnswered c p (s.withBlocks b) = (enquiryAnswered c p s).withBlocks b := by
  refine send_alike ?_
  cases h : s.connected <;> simp [State.withBlocks, State.emit, h]

theorem handleStatus_withBlocks (c : Cfg) (p : ParsedFrame) (s : State) (b : UploadBlocks) :
    handleStatus c p (s.withBlocks b) = (handleStatus c p s).withBlocks b := by
  refine orAbort_withBlocks c _ s b _ _ fun a => ?_
  exact ite_withBlocks (send_alike rfl) rfl

theorem handleNames_withBlocks (c : Cfg) (p : ParsedFrame) (s : State) (b : UploadBlocks) :
    handleNames c p (s.withBlocks b) = (handleNames c p s).withBlocks b := by
  refine orAbort_withBlocks c _ s b _ _ fun a => ?_
  exact ite_withBlocks (ite_withBlocks (send_alike rfl) (send_alike rfl)) rfl

theorem handleAmpcab_withBlocks (c : Cfg) (p : ParsedFrame) (s : State) (b : UploadBlocks) :
    handleAmpcab c p (s.withBlocks b) = (handleAmpcab c p s).withBlocks b := by
  refine orAbort_withBlocks c _ s b _ _ fun a => ?_
  exact ite_withBlocks (send_alike rfl) rfl

theorem handleCurname_withBlocks (c : Cfg) (p : ParsedFrame) (s : State) (b : UploadBlocks) :
    handleCurname c p (s.withBlocks b) = (handleCurname c p s).withBlocks b := by
  refine orAbort_withBlocks c _ s b _ _ fun a => ?_
  exact ite_withBlocks (send_alike rfl) rfl

theorem handleDump_withBlocks (c : Cfg) (p : ParsedFrame) (s : State) (b : UploadBlocks) :
    handleDump c p (s.withBlocks b) = (handleDump c p s).withBlocks b := by
  refine orAbort_withBlocks c _ s b _ _ fun a => ?_
  dsimp only
  split <;> rfl

theorem handleParam_withBlocks (c : Cfg) (p : ParsedFrame) (s : State) (b : UploadBlocks) :
    handleParam c p (s.withBlocks b) = (handleParam c p s).withBlocks b := by
  have h : dispatchParam c p (s.withBlocks b) = (dispatchParam c p s).withBlocks b := by
    refine orAbort_withBlocks c _ s b _ _ fun a => ?_
    exact ite_withBlocks rfl rfl
  unfold handleParam
  rw [h]
  exact ite_withBlocks (send_alike rfl) rfl

theorem handlePatchchg_withBlocks (c : Cfg) (p : ParsedFrame) (s : State) (b : UploadBlocks) :
    handlePatchchg c p (s.withBlocks b) = (handlePatchchg c p s).withBlocks b :=
  orAbort_withBlocks c _ s b _ _ fun _ => send_alike rfl

/-- R252: with no upload in progress an acknowledgement reads no block. -/
theorem handleAck_withBlocks (c : Cfg) (p : ParsedFrame) (s : State) (b : UploadBlocks) (h : ¬ uploadRuns s) :
    handleAck c p (s.withBlocks b) = (handleAck c p s).withBlocks b := by
  refine orAbort_withBlocks c _ s b _ _ fun a => ?_
  rw [if_neg fun k => h k.1, if_neg fun k => h k.1]

/-- A handler that commutes with another content of `uploadBlocks` does so behind the front end. -/
theorem onFrame_withBlocks (c : Cfg) (cmd : Seven) (h : Cfg → ParsedFrame → State → State) (ch : Seven) (wire : Bytes)
    (s : State) (b : UploadBlocks) (hh : ∀ p, h c p (s.feed.withBlocks b) = (h c p s.feed).withBlocks b) :
    onFrame c cmd h ch wire (s.withBlocks b) = (onFrame c cmd h ch wire s).withBlocks b := by
  exact ite_withBlocks (hh _) rfl

theorem handle_withBlocks (c : Cfg) (p : ParsedFrame) (s : State) (b : UploadBlocks) (h : ¬ uploadRuns s) :
    handle c p (s.withBlocks b) = (handle c p s).withBlocks b := by
  unfold handle
  split <;> first
    | rfl
    | exact enquiryAnswered_withBlocks c p s b
    | exact handleStatus_withBlocks c p s b
    | exact handleAmpcab_withBlocks c p s b
    | exact handleNames_withBlocks c p s b
    | exact handleCurname_withBlocks c p s b
    | exact handleDump_withBlocks c p s b
    | exact handleParam_withBlocks c p s b
    | exact handlePatchchg_withBlocks c p s b
    | exact handleAck_withBlocks c p s b h

theorem rx_withBlocks (c : Cfg) (m : Bytes) (s : State) (b : UploadBlocks) (h : ¬ uploadRuns s) :
    rx c m (s.withBlocks b) = (rx c m s).withBlocks b := by
  refine ite_withBlocks ?_ rfl
  cases m with
  | nil => rfl
  | cons x xs =>
    refine ite_withBlocks rfl ?_
    cases frameParse c (x :: xs) with
    | error x => rfl
    | ok p => exact ite_withBlocks (handle_withBlocks c p s.feed b h) rfl

theorem wdTick_withBlocks (c : Cfg) (s : State) (b : UploadBlocks) :
    wdTick c (s.withBlocks b) = (wdTick c s).withBlocks b := by
  exact ite_withBlocks (ite_withBlocks (fullResync_withBlocks c s b) (send_alike rfl)) rfl

/-- R29, R351: with no upload in progress, an instruction run with another content of `uploadBlocks` answers the same next state but for
that register, which keeps the other content or takes the one that the instruction writes. -/
theorem exec_withBlocks (i : Instr) (s : State) (b : UploadBlocks) (h : ¬ uploadRuns s) :
    ∃ (t : State) (b' : UploadBlocks), exec i s = .next t ∧ exec i (s.withBlocks b) = .next (t.withBlocks b') ∧
      (b' = b ∨ b' = t.uploadBlocks) := by
  have keep : ∀ f : State → State, f (s.withBlocks b) = (f s).withBlocks b →
      ∃ (t : State) (b' : UploadBlocks), (.next (f s) : Outcome) = .next t ∧
        (.next (f (s.withBlocks b)) : Outcome) = .next (t.withBlocks b') ∧ (b' = b ∨ b' = t.uploadBlocks) :=
    fun f e => ⟨f s, b, rfl, by rw [e], .inl rfl⟩
  have write : ∀ f : State → State, f (s.withBlocks b) = f s →
      ∃ (t : State) (b' : UploadBlocks), (.next (f s) : Outcome) = .next t ∧
        (.next (f (s.withBlocks b)) : Outcome) = .next (t.withBlocks b') ∧ (b' = b ∨ b' = t.uploadBlocks) :=
    fun f e => ⟨f s, (f s).uploadBlocks, rfl, by rw [e]; rfl, .inr rfl⟩
  cases i with
  | send cmd raw => exact keep (send cfg cmd raw) (send_alike rfl)
  | fullResync => exact keep (fullResync cfg) (fullResync_withBlocks ..)
  | reset => exact write (resetSession cfg) rfl
  | portOpen => exact keep (openPort cfg) (fullResync_withBlocks cfg { s with portOpen := true } b)
  | portClose => exact keep closePort (closePort_withBlocks ..)
  | hostResync => exact keep (hostResync cfg) (ite_withBlocks (fullResync_withBlocks cfg s b) rfl)
  | hostSend cmd raw => exact keep (hostSend cfg cmd raw) (ite_withBlocks (send_alike rfl) rfl)
  | uploadStart b1 b2 b3 b4 b5 b6 b7 b8 =>
    by_cases hs : (uploadMayStart s && hostBlocksOk [b1, b2, b3, b4, b5, b6, b7, b8]) = true
    · refine write (uploadStart cfg b1 b2 b3 b4 b5 b6 b7 b8) ?_
      have hb : (uploadMayStart (s.withBlocks b) && hostBlocksOk [b1, b2, b3, b4, b5, b6, b7, b8]) = true := hs
      unfold uploadStart
      rw [if_pos hs, if_pos hb]
      rfl
    · refine keep (uploadStart cfg b1 b2 b3 b4 b5 b6 b7 b8) ?_
      have hb : ¬ (uploadMayStart (s.withBlocks b) && hostBlocksOk [b1, b2, b3, b4, b5, b6, b7, b8]) = true := hs
      unfold uploadStart
      rw [if_neg hs, if_neg hb]
      rfl
  | wdTick => exact keep (wdTick cfg) (wdTick_withBlocks ..)
  | rx m => exact keep (rx cfg m) (rx_withBlocks cfg m s b h)
  | rxPassthru m =>
    exact keep (fun s => if s.portOpen then rxNonSysex m s else s) (ite_withBlocks rfl rfl)
  | rxEnqack1 ch wire => exact keep (onFrame cfg _ _ ch wire) (onFrame_withBlocks _ _ _ _ _ _ _ fun p => enquiryAnswered_withBlocks ..)
  | rxEnqack2 ch wire => exact keep (onFrame cfg _ _ ch wire) (onFrame_withBlocks _ _ _ _ _ _ _ fun p => enquiryAnswered_withBlocks ..)
  | rxStatus ch wire => exact keep (onFrame cfg _ _ ch wire) (onFrame_withBlocks _ _ _ _ _ _ _ fun p => handleStatus_withBlocks ..)
  | rxAmpcab ch wire => exact keep (onFrame cfg _ _ ch wire) (onFrame_withBlocks _ _ _ _ _ _ _ fun p => handleAmpcab_withBlocks ..)
  | rxNames ch wire => exact keep (onFrame cfg _ _ ch wire) (onFrame_withBlocks _ _ _ _ _ _ _ fun p => handleNames_withBlocks ..)
  | rxCurname ch wire => exact keep (onFrame cfg _ _ ch wire) (onFrame_withBlocks _ _ _ _ _ _ _ fun p => handleCurname_withBlocks ..)
  | rxDump ch wire => exact keep (onFrame cfg _ _ ch wire) (onFrame_withBlocks _ _ _ _ _ _ _ fun p => handleDump_withBlocks ..)
  | rxParam ch wire => exact keep (onFrame cfg _ _ ch wire) (onFrame_withBlocks _ _ _ _ _ _ _ fun p => handleParam_withBlocks ..)
  | rxPatchchg ch wire => exact keep (onFrame cfg _ _ ch wire) (onFrame_withBlocks _ _ _ _ _ _ _ fun p => handlePatchchg_withBlocks ..)
  | rxAck ch wire => exact keep (onFrame cfg _ _ ch wire) (onFrame_withBlocks _ _ _ _ _ _ _ fun p => handleAck_withBlocks _ _ s.feed _ h)
  | rxAmpcabReq ch wire => exact keep (onFrame cfg _ _ ch wire) (onFrame_withBlocks _ _ _ _ _ _ _ fun p => rfl)
  | rxX0A ch wire => exact keep (onFrame cfg _ _ ch wire) (onFrame_withBlocks _ _ _ _ _ _ _ fun p => rfl)
  | rxNamesReq ch wire => exact keep (onFrame cfg _ _ ch wire) (onFrame_withBlocks _ _ _ _ _ _ _ fun p => rfl)
  | rxCurnameReq ch wire => exact keep (onFrame cfg _ _ ch wire) (onFrame_withBlocks _ _ _ _ _ _ _ fun p => rfl)
  | rxEnddump ch wire => exact keep (onFrame cfg _ _ ch wire) (onFrame_withBlocks _ _ _ _ _ _ _ fun p => rfl)
  | rxExpr ch wire => exact keep (onFrame cfg _ _ ch wire) (onFrame_withBlocks _ _ _ _ _ _ _ fun p => rfl)
  | rxX28 ch wire => exact keep (onFrame cfg _ _ ch wire) (onFrame_withBlocks _ _ _ _ _ _ _ fun p => rfl)
  | rxCustom ch wire => exact keep (onFrame cfg _ _ ch wire) (onFrame_withBlocks _ _ _ _ _ _ _ fun p => rfl)
  | rxX2E ch wire => exact keep (onFrame cfg _ _ ch wire) (onFrame_withBlocks _ _ _ _ _ _ _ fun p => rfl)
  | rxNak ch wire => exact keep (onFrame cfg _ _ ch wire) (onFrame_withBlocks _ _ _ _ _ _ _ fun p => rfl)
  | rxUnrec cmd ch wire => exact keep (onFrame cfg _ _ ch wire) (onFrame_withBlocks _ _ _ _ _ _ _ fun p => rfl)
  | txStatusReq => exact keep (send cfg _ _) (send_alike rfl)
  | txNamesReq bank => exact keep (send cfg _ _) (send_alike rfl)
  | txAmpcabReq => exact keep (send cfg _ _) (send_alike rfl)
  | txCurnameReq => exact keep (send cfg _ _) (send_alike rfl)
  | txKeepalive => exact keep (send cfg _ _) (send_alike rfl)
  | txAck => exact keep (send cfg _ _) (send_alike rfl)
  | txHost cmd raw => exact keep (send cfg _ _) (send_alike rfl)
  | txUpload i =>
    have hb : ¬ uploadRuns (s.withBlocks b) := h
    refine keep (fun s => if uploadRuns s then txUpload cfg i s else s) ?_
    simp only [if_neg h, if_neg hb]
  | _ => exact ⟨_, b, rfl, rfl, .inl rfl⟩

end Sys2Proof.Machine
end

