-- ==== Sys2Proof/Laws/PerInstr.lean ====
section
/-! SUPPORT. The family `EncodedForm` of LAWS.json: each instruction is encoded in the form the format column of
spec/opcode_table.json gives its row (spec/30_encoding.md R111). -/

namespace Sys2Proof.Laws

/-- The format column of spec/opcode_table.json. -/
def formatOf : Instr → Format
  | .varintV1 _ => .varint
  | .varintV2 _ => .varint
  | .varintV3 _ => .varint
  | .varintV4 _ => .varint
  | .varintIllegal0 => .varint
  | .varintIllegalN _ => .varint
  | .packgroup _ _ => .packgroup
  | .varintEnc _ => .op
  | .varintDec _ _ => .op
  | .pack _ => .op
  | .unpack _ => .op
  | .cksum _ => .op
  | .frameBuild _ _ _ => .op
  | .frameBuildP _ _ _ => .op
  | .frameParse _ => .op
  | .frameUnpack _ => .op
  | .send _ _ => .op
  | .fullResync => .op
  | .rawOf _ => .op
  | .abort _ => .op
  | .reset => .event
  | .portOpen => .event
  | .portClose => .event
  | .hostResync => .event
  | .hostSend _ _ => .event
  | .uploadStart _ _ _ _ _ _ _ _ => .event
  | .wdTick => .event
  | .rx _ => .event
  | .rxPassthru _ => .event
  | .rxEnqack1 _ _ => .gnxf
  | .rxEnqack2 _ _ => .gnxf
  | .rxStatus _ _ => .gnxf
  | .rxAmpcabReq _ _ => .gnxf
  | .rxAmpcab _ _ => .gnxf
  | .rxX0A _ _ => .gnxf
  | .rxNamesReq _ _ => .gnxf
  | .rxNames _ _ => .gnxf
  | .rxCurnameReq _ _ => .gnxf
  | .rxCurname _ _ => .gnxf
  | .rxEnddump _ _ => .gnxf
  | .rxDump _ _ => .gnxf
  | .rxExpr _ _ => .gnxf
  | .rxX28 _ _ => .gnxf
  | .rxCustom _ _ => .gnxf
  | .rxParam _ _ => .gnxf
  | .rxPatchchg _ _ => .gnxf
  | .rxX2E _ _ => .gnxf
  | .rxAck _ _ => .gnxf
  | .rxNak _ _ => .gnxf
  | .rxUnrec _ _ _ => .gnxf
  | .txStatusReq => .gnxf
  | .txNamesReq _ => .gnxf
  | .txAmpcabReq => .gnxf
  | .txCurnameReq => .gnxf
  | .txKeepalive => .gnxf
  | .txAck => .gnxf
  | .txHost _ _ => .gnxf
  | .txUpload _ => .gnxf
  | .txEnquiry => .raw

/-- R111: whether an item is of the form a format asks for. `TX.UPLOAD`, a row of format GNXF, is selected by name (log 19). -/
def itemFits : Format → Item → Bool
  | .varint, .rawBytes _ => true
  | .packgroup, .wireBytes _ => true
  | .op, .call _ _ => true
  | .event, .call _ _ => true
  | .event, .inbound _ => true
  | .gnxf, .inbound _ => true
  | .gnxf, .outbound _ => true
  | .gnxf, .call .txUpload _ => true
  | .raw, .outbound _ => true
  | _, _ => false

/-- R111: on every channel the instruction's item is of its row's form. -/
def EncodedForm.Statement (i : Instr) : Prop :=
  ∀ ch : Seven, itemFits (formatOf i) (encode ch i) = true

theorem EncodedForm.varintV1 (v : BitVec 7) : EncodedForm.Statement (.varintV1 v) :=
  fun _ => rfl

theorem EncodedForm.varintV2 (v : BitVec 8) : EncodedForm.Statement (.varintV2 v) :=
  fun _ => rfl

theorem EncodedForm.varintV3 (v : BitVec 16) : EncodedForm.Statement (.varintV3 v) :=
  fun _ => rfl

theorem EncodedForm.varintV4 (v : BitVec 24) : EncodedForm.Statement (.varintV4 v) :=
  fun _ => rfl

theorem EncodedForm.varintIllegal0 : EncodedForm.Statement .varintIllegal0 :=
  fun _ => rfl

theorem EncodedForm.varintIllegalN (n : BitVec 7) : EncodedForm.Statement (.varintIllegalN n) :=
  fun _ => rfl

theorem EncodedForm.packgroup (flags : BitVec 7) (data : List Seven) : EncodedForm.Statement (.packgroup flags data) :=
  fun _ => rfl

theorem EncodedForm.varintEnc (value : BitVec 32) : EncodedForm.Statement (.varintEnc value) :=
  fun _ => rfl

theorem EncodedForm.varintDec (buf : Bytes) (pos : Nat) : EncodedForm.Statement (.varintDec buf pos) :=
  fun _ => rfl

theorem EncodedForm.pack (raw : Bytes) : EncodedForm.Statement (.pack raw) :=
  fun _ => rfl

theorem EncodedForm.unpack (wire : Bytes) : EncodedForm.Statement (.unpack wire) :=
  fun _ => rfl

theorem EncodedForm.cksum (bytes : Bytes) : EncodedForm.Statement (.cksum bytes) :=
  fun _ => rfl

theorem EncodedForm.frameBuild (ch cmd : Byte) (wire : Bytes) : EncodedForm.Statement (.frameBuild ch cmd wire) :=
  fun _ => rfl

theorem EncodedForm.frameBuildP (ch cmd : Byte) (raw : Bytes) : EncodedForm.Statement (.frameBuildP ch cmd raw) :=
  fun _ => rfl

theorem EncodedForm.frameParse (m : Bytes) : EncodedForm.Statement (.frameParse m) :=
  fun _ => rfl

theorem EncodedForm.frameUnpack (m : Bytes) : EncodedForm.Statement (.frameUnpack m) :=
  fun _ => rfl

theorem EncodedForm.send (cmd : Seven) (raw : Bytes) : EncodedForm.Statement (.send cmd raw) :=
  fun _ => rfl

theorem EncodedForm.fullResync : EncodedForm.Statement .fullResync :=
  fun _ => rfl

theorem EncodedForm.rawOf (p : ParsedFrame) : EncodedForm.Statement (.rawOf p) :=
  fun _ => rfl

theorem EncodedForm.abort (x : ErrorCode) : EncodedForm.Statement (.abort x) :=
  fun _ => rfl

theorem EncodedForm.reset : EncodedForm.Statement .reset :=
  fun _ => rfl

theorem EncodedForm.portOpen : EncodedForm.Statement .portOpen :=
  fun _ => rfl

theorem EncodedForm.portClose : EncodedForm.Statement .portClose :=
  fun _ => rfl

theorem EncodedForm.hostResync : EncodedForm.Statement .hostResync :=
  fun _ => rfl

theorem EncodedForm.hostSend (cmd : Byte) (raw : Bytes) : EncodedForm.Statement (.hostSend cmd raw) :=
  fun _ => rfl

theorem EncodedForm.uploadStart (b1 b2 b3 b4 b5 b6 b7 b8 : HostBlock) : EncodedForm.Statement (.uploadStart b1 b2 b3 b4 b5 b6 b7 b8) :=
  fun _ => rfl

theorem EncodedForm.wdTick : EncodedForm.Statement .wdTick :=
  fun _ => rfl

theorem EncodedForm.rx (m : Bytes) : EncodedForm.Statement (.rx m) :=
  fun _ => rfl

theorem EncodedForm.rxPassthru (m : Bytes) : EncodedForm.Statement (.rxPassthru m) :=
  fun _ => rfl

theorem EncodedForm.rxEnqack1 (ch : Seven) (wire : Bytes) : EncodedForm.Statement (.rxEnqack1 ch wire) :=
  fun _ => rfl

theorem EncodedForm.rxEnqack2 (ch : Seven) (wire : Bytes) : EncodedForm.Statement (.rxEnqack2 ch wire) :=
  fun _ => rfl

theorem EncodedForm.rxStatus (ch : Seven) (wire : Bytes) : EncodedForm.Statement (.rxStatus ch wire) :=
  fun _ => rfl

theorem EncodedForm.rxAmpcabReq (ch : Seven) (wire : Bytes) : EncodedForm.Statement (.rxAmpcabReq ch wire) :=
  fun _ => rfl

theorem EncodedForm.rxAmpcab (ch : Seven) (wire : Bytes) : EncodedForm.Statement (.rxAmpcab ch wire) :=
  fun _ => rfl

theorem EncodedForm.rxX0A (ch : Seven) (wire : Bytes) : EncodedForm.Statement (.rxX0A ch wire) :=
  fun _ => rfl

theorem EncodedForm.rxNamesReq (ch : Seven) (wire : Bytes) : EncodedForm.Statement (.rxNamesReq ch wire) :=
  fun _ => rfl

theorem EncodedForm.rxNames (ch : Seven) (wire : Bytes) : EncodedForm.Statement (.rxNames ch wire) :=
  fun _ => rfl

theorem EncodedForm.rxCurnameReq (ch : Seven) (wire : Bytes) : EncodedForm.Statement (.rxCurnameReq ch wire) :=
  fun _ => rfl

theorem EncodedForm.rxCurname (ch : Seven) (wire : Bytes) : EncodedForm.Statement (.rxCurname ch wire) :=
  fun _ => rfl

theorem EncodedForm.rxEnddump (ch : Seven) (wire : Bytes) : EncodedForm.Statement (.rxEnddump ch wire) :=
  fun _ => rfl

theorem EncodedForm.rxDump (ch : Seven) (wire : Bytes) : EncodedForm.Statement (.rxDump ch wire) :=
  fun _ => rfl

theorem EncodedForm.rxExpr (ch : Seven) (wire : Bytes) : EncodedForm.Statement (.rxExpr ch wire) :=
  fun _ => rfl

theorem EncodedForm.rxX28 (ch : Seven) (wire : Bytes) : EncodedForm.Statement (.rxX28 ch wire) :=
  fun _ => rfl

theorem EncodedForm.rxCustom (ch : Seven) (wire : Bytes) : EncodedForm.Statement (.rxCustom ch wire) :=
  fun _ => rfl

theorem EncodedForm.rxParam (ch : Seven) (wire : Bytes) : EncodedForm.Statement (.rxParam ch wire) :=
  fun _ => rfl

theorem EncodedForm.rxPatchchg (ch : Seven) (wire : Bytes) : EncodedForm.Statement (.rxPatchchg ch wire) :=
  fun _ => rfl

theorem EncodedForm.rxX2E (ch : Seven) (wire : Bytes) : EncodedForm.Statement (.rxX2E ch wire) :=
  fun _ => rfl

theorem EncodedForm.rxAck (ch : Seven) (wire : Bytes) : EncodedForm.Statement (.rxAck ch wire) :=
  fun _ => rfl

theorem EncodedForm.rxNak (ch : Seven) (wire : Bytes) : EncodedForm.Statement (.rxNak ch wire) :=
  fun _ => rfl

theorem EncodedForm.rxUnrec (cmd : Seven) (ch : Seven) (wire : Bytes) : EncodedForm.Statement (.rxUnrec cmd ch wire) :=
  fun _ => rfl

theorem EncodedForm.txStatusReq : EncodedForm.Statement .txStatusReq :=
  fun _ => rfl

theorem EncodedForm.txNamesReq (bank : Bank) : EncodedForm.Statement (.txNamesReq bank) :=
  fun _ => rfl

theorem EncodedForm.txAmpcabReq : EncodedForm.Statement .txAmpcabReq :=
  fun _ => rfl

theorem EncodedForm.txCurnameReq : EncodedForm.Statement .txCurnameReq :=
  fun _ => rfl

theorem EncodedForm.txKeepalive : EncodedForm.Statement .txKeepalive :=
  fun _ => rfl

theorem EncodedForm.txAck : EncodedForm.Statement .txAck :=
  fun _ => rfl

theorem EncodedForm.txHost (cmd : Seven) (raw : Bytes) : EncodedForm.Statement (.txHost cmd raw) :=
  fun _ => rfl

theorem EncodedForm.txUpload (block : Fin 8) : EncodedForm.Statement (.txUpload block) :=
  fun _ => rfl

theorem EncodedForm.txEnquiry : EncodedForm.Statement .txEnquiry :=
  fun _ => rfl

end Sys2Proof.Laws
end

