-- ==== Sys2Proof/Machine/Errors.lean ====
section
/-! DEFINITION. The table of spec/60_exceptions.md R311: the number and the class of every error code, and which code a log line stands
for. No rule reads them; they are what an alert or a log line is compared by (46 R292). -/

namespace Sys2Proof.Machine

/-- R311: the number `n` of the code `Xn`. -/
def errorNumber : ErrorCode → Nat
  | .varintDomain _ => 1
  | .varintTruncated _ => 2
  | .varintMalformed _ _ => 3
  | .packMalformed _ => 4
  | .frameDomain => 5
  | .frameMalformed => 6
  | .checksumMismatch _ _ => 7
  | .notForThisDevice => 8
  | .unrecognizedCommand _ => 9
  | .deviceReportedChecksumError => 10
  | .payloadMalformed _ => 11
  | .patternMismatch => 12
  | .parameterError _ _ => 13
  | .lookupMiss => 14
  | .watchdogExpired => 15
  | .portNotOpen => 16
  | .hostRefused => 17

/-- R311: the class column. -/
def errorClass : ErrorCode → ErrorClass
  | .varintDomain _ => .domain
  | .varintTruncated _ => .malformedMessage
  | .varintMalformed _ _ => .malformedMessage
  | .packMalformed _ => .malformedMessage
  | .frameDomain => .domain
  | .frameMalformed => .transport
  | .checksumMismatch _ _ => .transport
  | .notForThisDevice => .transport
  | .unrecognizedCommand _ => .protocolViolation
  | .deviceReportedChecksumError => .protocolViolation
  | .payloadMalformed _ => .protocolViolation
  | .patternMismatch => .protocolViolation
  | .parameterError _ _ => .validation
  | .lookupMiss => .validation
  | .watchdogExpired => .liveness
  | .portNotOpen => .transport
  | .hostRefused => .refusal

/-- R311: the error a log line reports; "empty message" (R210) has no code of its own. -/
def logError : LogText → Option ErrorCode
  | .portNotOpen => some .portNotOpen
  | .emptyMessage => none
  | .dropped x => some x
  | .uploadRefused => some .hostRefused
  | .sendRefused => some .hostRefused

end Sys2Proof.Machine
end

