-- ==== Sys2Proof/Machine/Reference.lean ====
section
/-! DEFINITION. The reference instances of the OPEN functions and the reference configuration (spec/92_eei_decisions.md sections 2 and 3),
"placeholders of the spec": the tests run the vectors of spec/95_test_vectors.md under them, and neither `exec` nor `step` uses them. -/

namespace Sys2Proof.Machine

/-- 92, section 2: `RefParseStatus`, and `RefParsePatchChange` "as `RefParseStatus`". -/
def refParseStatus : Bytes → Option (Byte × Byte)
  | bank :: number :: _ => some (bank, number)
  | _ => none

/-- 92, section 2: "always the whole of `raw` as the name". -/
def refParsePatchName (raw : Bytes) : Option Text :=
  some raw

/-- 92, section 2: one name ended by a `00` byte, and the bytes after it. -/
def refName : Bytes → Option (Text × Bytes)
  | [] => none
  | b :: bs =>
    if b = 0x00 then some ([], bs)
    else
      match refName bs with
      | none => none
      | some (name, rest) => some (b :: name, rest)

/-- 92, section 2: "`count` names each ended by a `00` byte"; bytes after the last are ignored. -/
def refNames : Nat → Bytes → Option (List Text)
  | 0, _ => some []
  | n + 1, bs =>
    match refName bs with
    | none => none
    | some (name, rest) =>
      match refNames n rest with
      | none => none
      | some names => some (name :: names)

/-- 92, section 2: `RefParseNames`. -/
def refParseNames : Bytes → Option (Byte × List Text)
  | bank :: count :: rest =>
    match refNames count.toNat rest with
    | none => none
    | some names => some (bank, names)
  | _ => none

/-- 92, section 3: the reference configuration, with the alert strings and the free values at fixed placeholders. -/
def refCfg : Cfg :=
  { cfg with
    channelLock := none
    enquiryFrame := [0xF0, 0x7E, 0x7F, 0x06, 0x01, 0xF7]
    parseStatus := refParseStatus
    parseNames := refParseNames
    parsePatchName := refParsePatchName
    parsePatchChange := refParseStatus
    patchDumpWalk := fun _ => .ok
    alertTitle := fun _ => ""
    alertText := fun _ => ""
    freeBlocks := fun _ => default
    shortUnpackError := fun _ => .frameMalformed }

end Sys2Proof.Machine
end

