-- ==== Sys2Proof/Tests/Slice0.lean ====
section
/-! SUPPORT. Tests: ill-formed terms, a word of every row decoded, the vectors of spec/95_test_vectors.md one step at a time, and for every
statement with hypotheses a theorem `witness_<its name>` that shows values meeting them. Expected values are the spec's. -/

namespace Sys2Proof.Tests

open Sys2Proof Sys2Proof.Machine

/-- A state as spec/95_test_vectors.md writes it: port, connected, resyncing, phase, bite count, channel. -/
def session (portOpen connected resyncing : Bool) (phase : BitVec 4) (bite : BitVec 3) (ch : Seven) : State :=
  { State.reset with
    portOpen := portOpen, connected := connected, resyncing := resyncing, uploadPhase := phase, biteCount := bite,
    channel := ch }

/-- The tuple of spec/95_test_vectors.md. -/
def tuple (s : State) : Bool × Bool × Bool × BitVec 4 × BitVec 3 × Seven :=
  (s.portOpen, s.connected, s.resyncing, s.uploadPhase, s.biteCount, s.channel)

/-- The start state of spec/95 section 2.7. -/
def syncing : State :=
  session true true true 0 2 0

/-- The start state of P2 and P3 of spec/95. -/
def idle : State :=
  session true true false 0 0 0

/-- The eleven raw bytes of P5 of spec/95. -/
def p5raw : Bytes :=
  [0x82, 0x07, 0xD0, 0x81, 0xC8, 0x05, 0x7F, 0x83, 0x01, 0x00, 0x00]

/-- The frame of P5 of spec/95, step 8. -/
def p5frame : Bytes :=
  [0xF0, 0x00, 0x00, 0x10, 0x00, 0x56, 0x24, 0x5C, 0x02, 0x07, 0x50, 0x01, 0x48, 0x05, 0x7F, 0x40, 0x03, 0x01, 0x00,
    0x00, 0x1A, 0xF7]

/-- The parsed frame of `F0 00 00 10 00 56 05 00 01 42 F7` (spec/95 section 2.6), with the wire payload given. -/
def parsed (wire : Bytes) : ParsedFrame :=
  ⟨⟨0x00, 0x00, 0x10⟩, 0x00, 0x56, 0x05, wire, 0x42⟩

/-- A block of a host upload. -/
def hostBlock (cmd : Byte) (raw : Bytes) : HostBlock :=
  ⟨cmd, raw⟩

/-- The eight blocks of P2 of spec/95, latched. -/
def p2blocks : UploadBlocks :=
  ⟨⟨0x24, p5raw⟩, ⟨0x2A, [0x01, 0x80]⟩, ⟨0x2A, [0x02]⟩, ⟨0x2A, [0x03]⟩, ⟨0x2A, [0x04]⟩, ⟨0x26, [0xFF, 0xFF]⟩, ⟨0x28, []⟩,
    ⟨0x22, []⟩⟩

/-- The result an instruction leaves. -/
def result : Outcome → Option Result
  | .next s => s.returned
  | _ => none

/-- The outputs an instruction leaves. -/
def emitted : Outcome → List Output
  | .next s => s.outputs
  | _ => []

/-! Ill-formed terms, one for each check. -/

/-- R108: counts 0 to 3 are other rows. -/
theorem test_illegalN_count_three_refused : ¬ WellFormed (.varintIllegalN 3) := by decide

/-- R95: a group has a data byte, at most seven, and no flag without its byte. -/
theorem test_packgroup_checks :
    ¬ WellFormed (.packgroup 0 []) ∧ ¬ WellFormed (.packgroup 0 [0, 0, 0, 0, 0, 0, 0, 0]) ∧
      ¬ WellFormed (.packgroup 0x20 [5]) ∧ WellFormed (.packgroup 0x40 [5]) := by decide

/-- R211. -/
theorem test_passthru_checks : ¬ WellFormed (.rxPassthru []) ∧ ¬ WellFormed (.rxPassthru [0xF0, 0x01]) := by decide

/-- R90: no wire byte has bit 7. -/
theorem test_wire_checks :
    ∀ i ∈ [Instr.rxEnqack1 0 [0x80], .rxEnqack2 0 [0x80], .rxStatus 0 [0x80], .rxAmpcabReq 0 [0x80], .rxAmpcab 0 [0x80], .rxX0A 0 [0x80], .rxNamesReq 0 [0x80], .rxNames 0 [0x80], .rxCurnameReq 0 [0x80], .rxCurname 0 [0x80], .rxEnddump 0 [0x80], .rxDump 0 [0x80], .rxExpr 0 [0x80], .rxX28 0 [0x80], .rxCustom 0 [0x80], .rxParam 0 [0x80], .rxPatchchg 0 [0x80], .rxX2E 0 [0x80], .rxAck 0 [0x80], .rxNak 0 [0x80],
      .rxUnrec 0x55 0 [0x80]], ¬ WellFormed i := by decide

/-- R102: a command of the map is not unrecognised. -/
theorem test_unrec_known_command_refused : ¬ WellFormed (.rxUnrec 0x7F 0 []) := by decide

/-- R103: TX.STATUSREQ's message is not TX.HOST's. -/
theorem test_txHost_own_message_refused : ¬ WellFormed (.txHost 0x05 [0x01]) := by decide

/-- R104: a frame of the device is no enquiry, and the reference enquiry is none of its frames. -/
theorem test_enquiry_check :
    enquiryOk [0xF0, 0x00, 0x00, 0x10, 0x00, 0x56, 0x07, 0x41, 0xF7] = false ∧
      enquiryOk [0xF0, 0x7E, 0x7F, 0x06, 0x01, 0xF7] = true := by decide

/-! Every row's decoding, from words written out from spec/30_encoding.md. -/

/-- R99, R108. -/
theorem test_decode_varint :
    decode (.rawBytes [0x7F]) = .ok (.varintV1 0x7F) ∧ decode (.rawBytes [0x81, 0x80]) = .ok (.varintV2 0x80) ∧
      decode (.rawBytes [0x82, 0x12, 0x34]) = .ok (.varintV3 0x1234) ∧
      decode (.rawBytes [0x83, 0x12, 0x34, 0x56]) = .ok (.varintV4 0x123456) ∧
      decode (.rawBytes [0x80]) = .ok .varintIllegal0 ∧ decode (.rawBytes [0xFF]) = .ok (.varintIllegalN 127) := by decide

/-- R95. -/
theorem test_decode_packgroup :
    decode (.wireBytes [0x50, 0x02, 0x07, 0x50]) = .ok (.packgroup 0b1010000 [0x02, 0x07, 0x50]) := by decide

/-- R110: the codec operations and procedures by name. -/
theorem test_decode_calls :
    decode (.call .varintEnc [.num 0xFFFFFFFF]) = .ok (.varintEnc 0xFFFFFFFF) ∧
      decode (.call .varintDec [.bytes [0x05], .num 1]) = .ok (.varintDec [0x05] 1) ∧
      decode (.call .pack [.bytes [0x80]]) = .ok (.pack [0x80]) ∧
      decode (.call .unpack [.bytes [0x40, 0x00]]) = .ok (.unpack [0x40, 0x00]) ∧
      decode (.call .cksum [.bytes [0x01]]) = .ok (.cksum [0x01]) ∧
      decode (.call .frameBuild [.byte 0x80, .byte 0x05, .bytes []]) = .ok (.frameBuild 0x80 0x05 []) ∧
      decode (.call .frameBuildP [.byte 0x03, .byte 0x76, .bytes []]) = .ok (.frameBuildP 0x03 0x76 []) ∧
      decode (.call .frameParse [.bytes [0xF0]]) = .ok (.frameParse [0xF0]) ∧
      decode (.call .frameUnpack [.bytes [0xF7]]) = .ok (.frameUnpack [0xF7]) ∧
      decode (.call .send [.byte 0x2D, .bytes [0x01]]) = .ok (.send 0x2D [0x01]) ∧
      decode (.call .fullResync []) = .ok .fullResync ∧
      decode (.call .rawOf [.frame (parsed [])]) = .ok (.rawOf (parsed [])) ∧
      decode (.call .abort [.error .lookupMiss]) = .ok (.abort .lookupMiss) := by decide

/-- R110: the events by name. -/
theorem test_decode_events :
    decode (.call .reset []) = .ok .reset ∧ decode (.call .portOpen []) = .ok .portOpen ∧
      decode (.call .portClose []) = .ok .portClose ∧ decode (.call .hostResync []) = .ok .hostResync ∧
      decode (.call .hostSend [.byte 0xAD, .bytes [0x07]]) = .ok (.hostSend 0xAD [0x07]) ∧
      decode (.call .uploadStart [.block (hostBlock 1 []), .block (hostBlock 2 []), .block (hostBlock 3 []),
        .block (hostBlock 4 []), .block (hostBlock 5 []), .block (hostBlock 6 []), .block (hostBlock 7 []),
        .block (hostBlock 8 [])]) =
        .ok (.uploadStart (hostBlock 1 []) (hostBlock 2 []) (hostBlock 3 []) (hostBlock 4 []) (hostBlock 5 [])
          (hostBlock 6 []) (hostBlock 7 []) (hostBlock 8 [])) ∧
      decode (.call .wdTick []) = .ok .wdTick ∧ decode (.call .rx [.bytes [0xC0]]) = .ok (.rx [0xC0]) ∧
      decode (.inbound [0xC0, 0x05]) = .ok (.rxPassthru [0xC0, 0x05]) := by decide

/-- R90, R102: commands 01 to 21, the channel and the wire payload as they stand in the frame. -/
theorem test_decode_inbound_low :
    decode (.inbound [0xF0, 0x00, 0x00, 0x10, 0x00, 0x56, 0x01, 0x47, 0xF7]) = .ok (.rxEnqack1 0x00 []) ∧
      decode (.inbound [0xF0, 0x00, 0x00, 0x10, 0x07, 0x56, 0x02, 0x43, 0xF7]) = .ok (.rxEnqack2 0x07 []) ∧
      decode (.inbound [0xF0, 0x00, 0x00, 0x10, 0x00, 0x56, 0x06, 0x00, 0x01, 0x05, 0x44, 0xF7]) = .ok (.rxStatus 0x00 [0x00, 0x01, 0x05]) ∧
      decode (.inbound [0xF0, 0x00, 0x00, 0x10, 0x15, 0x56, 0x07, 0x54, 0xF7]) = .ok (.rxAmpcabReq 0x15 []) ∧
      decode (.inbound [0xF0, 0x00, 0x00, 0x10, 0x1C, 0x56, 0x08, 0x52, 0xF7]) = .ok (.rxAmpcab 0x1C []) ∧
      decode (.inbound [0xF0, 0x00, 0x00, 0x10, 0x23, 0x56, 0x0A, 0x6F, 0xF7]) = .ok (.rxX0A 0x23 []) ∧
      decode (.inbound [0xF0, 0x00, 0x00, 0x10, 0x2A, 0x56, 0x12, 0x7E, 0xF7]) = .ok (.rxNamesReq 0x2A []) ∧
      decode (.inbound [0xF0, 0x00, 0x00, 0x10, 0x31, 0x56, 0x13, 0x64, 0xF7]) = .ok (.rxNames 0x31 []) ∧
      decode (.inbound [0xF0, 0x00, 0x00, 0x10, 0x38, 0x56, 0x20, 0x5E, 0xF7]) = .ok (.rxCurnameReq 0x38 []) ∧
      decode (.inbound [0xF0, 0x00, 0x00, 0x10, 0x3F, 0x56, 0x21, 0x58, 0xF7]) = .ok (.rxCurname 0x3F []) := by decide

/-- R90, R102: commands 22 to 7F. -/
theorem test_decode_inbound_high :
    decode (.inbound [0xF0, 0x00, 0x00, 0x10, 0x46, 0x56, 0x22, 0x22, 0xF7]) = .ok (.rxEnddump 0x46 []) ∧
      decode (.inbound [0xF0, 0x00, 0x00, 0x10, 0x4D, 0x56, 0x24, 0x2F, 0xF7]) = .ok (.rxDump 0x4D []) ∧
      decode (.inbound [0xF0, 0x00, 0x00, 0x10, 0x54, 0x56, 0x26, 0x34, 0xF7]) = .ok (.rxExpr 0x54 []) ∧
      decode (.inbound [0xF0, 0x00, 0x00, 0x10, 0x5B, 0x56, 0x28, 0x35, 0xF7]) = .ok (.rxX28 0x5B []) ∧
      decode (.inbound [0xF0, 0x00, 0x00, 0x10, 0x62, 0x56, 0x2A, 0x0E, 0xF7]) = .ok (.rxCustom 0x62 []) ∧
      decode (.inbound [0xF0, 0x00, 0x00, 0x10, 0x00, 0x56, 0x2C, 0x14, 0x0C, 0x02, 0x02, 0x07, 0x50, 0x25, 0xF7]) = .ok (.rxParam 0x00 [0x14, 0x0C, 0x02, 0x02, 0x07, 0x50]) ∧
      decode (.inbound [0xF0, 0x00, 0x00, 0x10, 0x70, 0x56, 0x2D, 0x1B, 0xF7]) = .ok (.rxPatchchg 0x70 []) ∧
      decode (.inbound [0xF0, 0x00, 0x00, 0x10, 0x77, 0x56, 0x2E, 0x1F, 0xF7]) = .ok (.rxX2E 0x77 []) ∧
      decode (.inbound [0xF0, 0x00, 0x00, 0x10, 0x7F, 0x56, 0x7E, 0x00, 0x28, 0x6F, 0xF7]) = .ok (.rxAck 0x7F [0x00, 0x28]) ∧
      decode (.inbound [0xF0, 0x00, 0x00, 0x10, 0x05, 0x56, 0x7F, 0x3C, 0xF7]) = .ok (.rxNak 0x05 []) := by decide

/-- R102: every other 7-bit command is unrecognised. -/
theorem test_decode_unrec :
    decode (.inbound [0xF0, 0x00, 0x00, 0x10, 0x00, 0x56, 0x55, 0x13, 0xF7]) = .ok (.rxUnrec 0x55 0x00 []) ∧
      decode (.inbound [0xF0, 0x00, 0x00, 0x10, 0x7F, 0x56, 0x00, 0x39, 0xF7]) = .ok (.rxUnrec 0x00 0x7F []) := by decide

/-- R103: the block's own messages, with the bytes of spec/95 section 2.5. -/
theorem test_decode_outbound :
    decode (.outbound [0xF0, 0x00, 0x00, 0x10, 0x03, 0x56, 0x05, 0x00, 0x01, 0x41, 0xF7]) = .ok .txStatusReq ∧
      decode (.outbound [0xF0, 0x00, 0x00, 0x10, 0x03, 0x56, 0x12, 0x00, 0x00, 0x57, 0xF7]) = .ok (.txNamesReq .factory) ∧
      decode (.outbound [0xF0, 0x00, 0x00, 0x10, 0x03, 0x56, 0x12, 0x00, 0x01, 0x56, 0xF7]) = .ok (.txNamesReq .user) ∧
      decode (.outbound [0xF0, 0x00, 0x00, 0x10, 0x03, 0x56, 0x07, 0x42, 0xF7]) = .ok .txAmpcabReq ∧
      decode (.outbound [0xF0, 0x00, 0x00, 0x10, 0x03, 0x56, 0x20, 0x65, 0xF7]) = .ok .txCurnameReq ∧
      decode (.outbound [0xF0, 0x00, 0x00, 0x10, 0x03, 0x56, 0x76, 0x33, 0xF7]) = .ok .txKeepalive ∧
      decode (.outbound [0xF0, 0x00, 0x00, 0x10, 0x03, 0x56, 0x7E, 0x00, 0x21, 0x1A, 0xF7]) = .ok .txAck ∧
      decode (.outbound [0xF0, 0x00, 0x00, 0x10, 0x03, 0x56, 0x2D, 0x00, 0x01, 0x07, 0x6E, 0xF7]) = .ok (.txHost 0x2D [0x01, 0x07]) ∧
      decode (.call .txUpload [.num 8]) = .ok (.txUpload 7) := by decide

/-- R104: the enquiry, whatever its bytes, so long as they are no frame of the device. -/
theorem test_decode_enquiry (h : WellFormed .txEnquiry) : decode (.outbound cfg.enquiryFrame) = .ok .txEnquiry := by
  have h : enquiryOk cfg.enquiryFrame = true := h
  change decodeOutbound cfg.enquiryFrame = _
  unfold enquiryOk at h
  unfold decodeOutbound
  cases hp : frameParse cfg cfg.enquiryFrame with
  | error x => simp
  | ok p =>
    rw [hp] at h
    simp only [Bool.not_eq_true'] at h
    simp [h]

/-- R110: lines that are no row, an operand too wide, and a frame the block never sends. -/
theorem test_decode_refusals :
    decode (.call .wdTick [.num 1]) = .error (.operands .wdTick) ∧
      decode (.call .send [.byte 0x80, .bytes []]) = .error (.operandRange .send) ∧
      decode (.call .txUpload [.num 9]) = .error (.operandRange .txUpload) ∧
      decode (.outbound [0xF0, 0x00, 0x00, 0x10, 0x00, 0x56, 0x05, 0x00, 0x43, 0xF7]) =
        .error .notAnOutboundMessage := by decide

/-- The words of spec/opcode_table.json, numbered as its fixed bits number them (log 17). -/
theorem test_table_words :
    decodeTableWord 8 0x00 = some (.varintV1 0) ∧ decodeTableWord 16 0x8100 = some (.varintV2 0) ∧
      decodeTableWord 8 0x83 = some (.varintV4 0) ∧ decodeTableWord 8 0x84 = some (.varintIllegalN 4) ∧
      decodeTableWord 64 0 = some (.packgroup 0 [0, 0, 0, 0, 0, 0, 0]) ∧
      decodeTableWord 56 0xF000001000562D = some (.rxPatchchg 0 []) ∧
      decodeTableWord 56 0xF0000010035600 = some (.rxUnrec 0 3 []) ∧
      decodeTableWord 56 0xF0000010005605 = some .txStatusReq ∧
      decodeTableWord 56 0xF0000010005676 = some .txKeepalive ∧
      decodeTableWord 72 0xF000001000567E0021 = some .txAck := by decide

/-- A step runs the word placed where it takes its next item. -/
theorem test_step_runs_table_word :
    result (step (State.reset.withFetchWord 16 0x81C8)) = some (.cursorValue 2 200) := by decide

/-! The codec, spec/95 sections 2.1 to 2.6. -/

/-- 95, 2.1: the boundaries of the four forms. -/
theorem test_varint_enc :
    varintEnc cfg 0x7F = .ok [0x7F] ∧ varintEnc cfg 0x80 = .ok [0x81, 0x80] ∧ varintEnc cfg 0xFF = .ok [0x81, 0xFF] ∧
      varintEnc cfg 0x100 = .ok [0x82, 0x01, 0x00] ∧ varintEnc cfg 2000 = .ok [0x82, 0x07, 0xD0] ∧
      varintEnc cfg 0xFFFF = .ok [0x82, 0xFF, 0xFF] ∧ varintEnc cfg 0x10000 = .ok [0x83, 0x01, 0x00, 0x00] ∧
      varintEnc cfg 0x123456 = .ok [0x83, 0x12, 0x34, 0x56] ∧
      varintEnc cfg 0xFFFFFF = .ok [0x83, 0xFF, 0xFF, 0xFF] := by decide

/-- 95, 2.1: one above the largest legal value. -/
theorem test_varint_enc_domain :
    result (exec (.varintEnc 0x1000000) idle) = some (.err (.varintDomain 0x1000000)) := by decide

/-- 95, 2.2: values, cursors and non-minimal forms. -/
theorem test_varint_dec :
    varintDec [0x81, 0x80] 0 = .ok (2, 128) ∧ varintDec [0x83, 0xFF, 0xFF, 0xFF] 0 = .ok (4, 16777215) ∧
      varintDec [0x0C, 0x02, 0x82, 0x07, 0xD0] 2 = .ok (5, 2000) ∧ varintDec [0x82, 0x00, 0x05] 0 = .ok (3, 5) ∧
      varintDec [0x83, 0x00, 0x00, 0x00] 0 = .ok (4, 0) ∧ varintDec [0x05, 0xFF] 0 = .ok (1, 5) ∧
      varintDecSeq p5raw 5 0 = .ok (11, [2000, 200, 5, 127, 65536]) := by decide

/-- 95, 2.2: the errors, malformed tested before truncated. -/
theorem test_varint_dec_errors :
    varintDec [] 0 = .error (.varintTruncated 0) ∧ varintDec [0x05] 1 = .error (.varintTruncated 1) ∧
      varintDec [0x82, 0x01] 0 = .error (.varintTruncated 0) ∧ varintDec [0x80, 0x01] 0 = .error (.varintMalformed 0 0x80) ∧
      varintDec [0x84] 0 = .error (.varintMalformed 0 0x84) ∧ varintDec [0xFF] 0 = .error (.varintMalformed 0 0xFF) := by
  decide

/-- 95, 2.2, through the rows. -/
theorem test_varint_rows :
    result (exec (.varintV1 0x7F) idle) = some (.cursorValue 1 127) ∧
      result (exec (.varintV2 0x05) idle) = some (.cursorValue 2 5) ∧
      result (exec (.varintV3 2000) idle) = some (.cursorValue 3 2000) ∧
      result (exec (.varintV4 0xFFFFFF) idle) = some (.cursorValue 4 16777215) ∧
      result (exec .varintIllegal0 idle) = some (.err (.varintMalformed 0 0x80)) ∧
      result (exec (.varintIllegalN 0x7F) idle) = some (.err (.varintMalformed 0 0xFF)) := by decide

/-- 95, 2.3. -/
theorem test_pack :
    pack cfg [] = [] ∧ pack cfg [0x80] = [0x40, 0x00] ∧ pack cfg [0x81, 0xFF] = [0x60, 0x01, 0x7F] ∧
      pack cfg [0x00, 0x00, 0x00, 0x00, 0x00, 0x00, 0x80] = [0x01, 0x00, 0x00, 0x00, 0x00, 0x00, 0x00, 0x00] ∧
      pack cfg [0x80, 0x01, 0x82, 0x03, 0x84, 0x05, 0x86, 0x07] =
        [0x55, 0x00, 0x01, 0x02, 0x03, 0x04, 0x05, 0x06, 0x00, 0x07] ∧
      pack cfg p5raw = [0x5C, 0x02, 0x07, 0x50, 0x01, 0x48, 0x05, 0x7F, 0x40, 0x03, 0x01, 0x00, 0x00] := by decide

/-- 95, 2.3: the vectors under `PARTIAL_ALIGN = right`, both ways. -/
theorem test_pack_right :
    pack { cfg with partialAlign := .right } [0x82, 0x07, 0xD0] = [0x05, 0x02, 0x07, 0x50] ∧
      unpack { cfg with partialAlign := .right } [0x05, 0x02, 0x07, 0x50] = .ok [0x82, 0x07, 0xD0] := by decide

/-- 95, 2.4. -/
theorem test_unpack :
    unpack cfg [0x40, 0x05] = .ok [0x85] ∧
      unpack cfg [0x14, 0x0C, 0x02, 0x02, 0x07, 0x50] = .ok [0x0C, 0x02, 0x82, 0x07, 0xD0] ∧
      unpack cfg [0x00] = .error (.packMalformed 0) ∧
      unpack cfg [0x00, 0x01, 0x02, 0x03, 0x04, 0x05, 0x06, 0x07, 0x00] = .error (.packMalformed 8) ∧
      unpack cfg [0x80, 0x01] = .error (.packMalformed 0) ∧ unpack cfg [0x00, 0x80] = .error (.packMalformed 1) ∧
      unpack cfg [0x01, 0x05] = .error (.packMalformed 0) ∧ unpack cfg [0x20, 0x05] = .error (.packMalformed 0) := by decide

/-- 95, 2.3 and 2.4, through the row. -/
theorem test_packgroup :
    result (exec (.packgroup 0x50 [0x02, 0x07, 0x50]) idle) = some (.bytes [0x82, 0x07, 0xD0]) ∧
      result (exec (.packgroup 0x20 [0x05]) idle) = some (.err (.packMalformed 0)) := by decide

/-- 95, 2.5. -/
theorem test_cksum :
    result (exec (.cksum [0x00, 0x00, 0x10, 0x00, 0x56, 0x05, 0x00, 0x01]) idle) = some (.byte 0x42) := by decide

/-- 95, 2.5. -/
theorem test_frame_build :
    frameBuild cfg 0x00 0x05 [0x00, 0x01] =
        .ok [0xF0, 0x00, 0x00, 0x10, 0x00, 0x56, 0x05, 0x00, 0x01, 0x42, 0xF7] ∧
      frameBuild cfg 0x7F 0x00 [] = .ok [0xF0, 0x00, 0x00, 0x10, 0x7F, 0x56, 0x00, 0x39, 0xF7] ∧
      frameBuild cfg 0x80 0x05 [] = .error .frameDomain ∧ frameBuild cfg 0x00 0x05 [0x80] = .error .frameDomain := by decide

/-- 95, 2.5. -/
theorem test_frame_build_packed :
    frameBuildP cfg 0x00 0x24 p5raw = .ok p5frame ∧
      frameBuildP cfg 0x03 0x7E [0x21] =
        .ok [0xF0, 0x00, 0x00, 0x10, 0x03, 0x56, 0x7E, 0x00, 0x21, 0x1A, 0xF7] := by decide

/-- 95, 2.6: accepted messages, one for another device and one with two equal flips among them. -/
theorem test_frame_parse :
    frameParse cfg [0xF0, 0x00, 0x00, 0x10, 0x00, 0x56, 0x05, 0x00, 0x01, 0x42, 0xF7] = .ok (parsed [0x00, 0x01]) ∧
      frameParse cfg [0xF0, 0x00, 0x00, 0x11, 0x00, 0x56, 0x06, 0x00, 0x01, 0x05, 0x45, 0xF7] =
        .ok ⟨⟨0x00, 0x00, 0x11⟩, 0x00, 0x56, 0x06, [0x00, 0x01, 0x05], 0x45⟩ ∧
      (frameParse cfg ((p5frame.set 8 0x06).set 9 0x03)).isOk = true := by decide

/-- 95, 2.6: the rejections, in the order of the tests. -/
theorem test_frame_parse_errors :
    frameParse cfg [0xF0, 0x00, 0x00, 0x10, 0x00, 0x56, 0x05, 0x00, 0x01, 0x43, 0xF7] =
        .error (.checksumMismatch 0x43 0x42) ∧
      frameParse cfg [0xF0, 0x00, 0x00, 0x10, 0x00, 0x56, 0x05, 0x00, 0x05, 0x42, 0xF7] =
        .error (.checksumMismatch 0x42 0x46) ∧
      frameParse cfg [0xF0, 0x00, 0x00, 0x10, 0x00, 0x56, 0x05, 0x00, 0x81, 0x42, 0xF7] = .error .frameMalformed ∧
      frameParse cfg [0xF0, 0x00, 0x00, 0x10, 0x00, 0x56, 0x05, 0xF7] = .error .frameMalformed ∧
      frameParse cfg [0xF0, 0x00, 0x00, 0x10, 0x00, 0x56, 0x05, 0x00, 0x01, 0x42] = .error .frameMalformed := by decide

/-- 95, 2.6. -/
theorem test_frame_unpack :
    result (exec (.frameUnpack p5frame) idle) = some (.bytes p5raw) ∧
      result (exec (.frameUnpack [0xF0, 0x00, 0x00, 0x10, 0x00, 0x56, 0x21, 0x00, 0x67, 0xF7]) idle) =
        some (.err (.packMalformed 0)) := by decide

/-! One step of each session instruction, spec/95 sections 2.7 and 3, under the reference configuration. -/

/-- 95, 2.7: the first acknowledgement, on channel 3. -/
theorem test_enqack2_connects :
    let t := rx refCfg [0xF0, 0x00, 0x00, 0x10, 0x03, 0x56, 0x02, 0x47, 0xF7] (session true false true 0 0 0)
    tuple t = (true, true, true, 0, 0, 3) ∧
      t.outputs = [.notify .connected, .tx [0xF0, 0x00, 0x00, 0x10, 0x03, 0x56, 0x05, 0x00, 0x01, 0x41, 0xF7]] := by decide

/-- 95, 2.7: with `CHANNEL_LOCK = 05`. -/
theorem test_enqack_locked :
    let t := rx { refCfg with channelLock := some 5 } [0xF0, 0x00, 0x00, 0x10, 0x03, 0x56, 0x02, 0x47, 0xF7]
      (session true false true 0 0 5)
    tuple t = (true, true, true, 0, 0, 5) ∧
      t.outputs = [.notify .connected, .tx [0xF0, 0x00, 0x00, 0x10, 0x05, 0x56, 0x05, 0x00, 0x01, 0x47, 0xF7]] := by decide

/-- 95, 2.7: already connected. -/
theorem test_enqack1_again :
    let t := rx refCfg [0xF0, 0x00, 0x00, 0x10, 0x00, 0x56, 0x01, 0x47, 0xF7] syncing
    tuple t = (true, true, true, 0, 0, 0) ∧
      t.outputs = [.tx [0xF0, 0x00, 0x00, 0x10, 0x00, 0x56, 0x05, 0x00, 0x01, 0x42, 0xF7]] := by decide

/-- 95, 2.7. -/
theorem test_status :
    let t := rx refCfg [0xF0, 0x00, 0x00, 0x10, 0x00, 0x56, 0x06, 0x00, 0x01, 0x05, 0x44, 0xF7] syncing
    t.currentPatch = ⟨1, 5, []⟩ ∧ t.outputs = [.tx [0xF0, 0x00, 0x00, 0x10, 0x00, 0x56, 0x12, 0x00, 0x00, 0x54, 0xF7]] := by
  decide

/-- 95, 2.7: a payload too short aborts. -/
theorem test_status_short :
    let t := rx refCfg [0xF0, 0x00, 0x00, 0x10, 0x00, 0x56, 0x06, 0x00, 0x01, 0x41, 0xF7] syncing
    tuple t = (true, true, false, 0, 0, 0) ∧ t.currentPatch = ⟨0, 0, []⟩ ∧
      t.outputs = [.alert .protocolViolation (.payloadMalformed 0x06) "" ""] := by decide

/-- 95, P1 step 5: factory names are not stored. -/
theorem test_names_factory :
    let t := rx refCfg [0xF0, 0x00, 0x00, 0x10, 0x03, 0x56, 0x13, 0x00, 0x00, 0x02, 0x43, 0x4C, 0x45, 0x41, 0x4E, 0x00,
      0x00, 0x44, 0x49, 0x52, 0x54, 0x59, 0x00, 0x43, 0xF7] (session true true true 0 0 3)
    t.userPatchNames = [] ∧ t.outputs =
      [.notify (.patchNamesUpdated 0 [[0x43, 0x4C, 0x45, 0x41, 0x4E], [0x44, 0x49, 0x52, 0x54, 0x59]]),
        .tx [0xF0, 0x00, 0x00, 0x10, 0x03, 0x56, 0x12, 0x00, 0x01, 0x56, 0xF7]] := by decide

/-- 95, P1 step 6: user names are. -/
theorem test_names_user :
    let t := rx refCfg [0xF0, 0x00, 0x00, 0x10, 0x03, 0x56, 0x13, 0x00, 0x01, 0x01, 0x4D, 0x49, 0x4E, 0x45, 0x00, 0x59,
      0xF7] (session true true true 0 0 3)
    t.userPatchNames = [[0x4D, 0x49, 0x4E, 0x45]] ∧ t.outputs =
      [.notify (.patchNamesUpdated 1 [[0x4D, 0x49, 0x4E, 0x45]]),
        .tx [0xF0, 0x00, 0x00, 0x10, 0x03, 0x56, 0x07, 0x42, 0xF7]] := by decide

/-- 95, 2.7: two amps and one cab. -/
theorem test_ampcab :
    (rx refCfg [0xF0, 0x00, 0x00, 0x10, 0x00, 0x56, 0x08, 0x00, 0x02, 0x00, 0x42, 0x4C, 0x4B, 0x46, 0x41, 0x00, 0x43,
      0x00, 0x01, 0x42, 0x4F, 0x55, 0x54, 0x00, 0x49, 0x51, 0x00, 0x01, 0x00, 0x41, 0x4D, 0x00, 0x45, 0x52, 0x32, 0x78,
      0x00, 0x08, 0xF7] syncing).outputs =
      [.dispatch (.ampCabNames
        [⟨0, [0x42, 0x4C, 0x4B, 0x46, 0x41, 0x43]⟩, ⟨1, [0x42, 0x4F, 0x55, 0x54, 0x49, 0x51]⟩]
        [⟨0, [0x41, 0x4D, 0x45, 0x52, 0x32, 0x78]⟩]),
        .tx [0xF0, 0x00, 0x00, 0x10, 0x00, 0x56, 0x20, 0x66, 0xF7]] := by decide

/-- 95, P1 step 8. -/
theorem test_curname :
    let t := rx refCfg [0xF0, 0x00, 0x00, 0x10, 0x03, 0x56, 0x21, 0x00, 0x4D, 0x49, 0x4E, 0x45, 0x6B, 0xF7]
      { session true true true 0 0 3 with currentPatch := ⟨1, 5, []⟩ }
    t.currentPatch = ⟨1, 5, [0x4D, 0x49, 0x4E, 0x45]⟩ ∧ t.outputs =
      [.notify (.patchNameChanged [0x4D, 0x49, 0x4E, 0x45]),
        .tx [0xF0, 0x00, 0x00, 0x10, 0x03, 0x56, 0x7E, 0x00, 0x21, 0x1A, 0xF7]] := by decide

/-- 95, P1 step 9: the dump leaves the block syncing. -/
theorem test_dump :
    let t := rx refCfg p5frame syncing
    label t = .syncing ∧ t.outputs = [.dispatch (.patchDump p5raw)] := by decide

/-- R219: a mismatch aborts after the dispatch. -/
theorem test_dump_mismatch :
    let t := rx { refCfg with patchDumpWalk := fun _ => .patternMismatch } p5frame syncing
    tuple t = (true, true, false, 0, 0, 0) ∧
      t.outputs = [.dispatch (.patchDump p5raw), .alert .protocolViolation .patternMismatch "" ""] := by decide

/-- 95, 2.7. -/
theorem test_enddump :
    let t := rx refCfg [0xF0, 0x00, 0x00, 0x10, 0x00, 0x56, 0x22, 0x64, 0xF7] syncing
    tuple t = (true, true, false, 0, 0, 0) ∧ label t = .connectedIdle ∧ t.outputs = [] := by decide

/-- 95, 2.7: a parameter change, and section 0E. -/
theorem test_param :
    (rx refCfg [0xF0, 0x00, 0x00, 0x10, 0x00, 0x56, 0x2C, 0x14, 0x0C, 0x02, 0x02, 0x07, 0x50, 0x25, 0xF7]
        syncing).outputs = [.dispatch (.paramChange 0x0C 0x02 2000),
          .tx [0xF0, 0x00, 0x00, 0x10, 0x00, 0x56, 0x76, 0x30, 0xF7]] ∧
      (rx refCfg [0xF0, 0x00, 0x00, 0x10, 0x00, 0x56, 0x2C, 0x00, 0x0E, 0x00, 0x40, 0x24, 0xF7] syncing).outputs =
        [.tx [0xF0, 0x00, 0x00, 0x10, 0x00, 0x56, 0x76, 0x30, 0xF7]] := by decide

/-- 95, 2.7: a payload too short, and a block that is not connected. -/
theorem test_param_short :
    (rx refCfg [0xF0, 0x00, 0x00, 0x10, 0x00, 0x56, 0x2C, 0x00, 0x0C, 0x66, 0xF7] syncing).outputs =
        [.alert .protocolViolation (.payloadMalformed 0x2C) "" "",
          .tx [0xF0, 0x00, 0x00, 0x10, 0x00, 0x56, 0x76, 0x30, 0xF7]] ∧
      rx refCfg [0xF0, 0x00, 0x00, 0x10, 0x00, 0x56, 0x2C, 0x14, 0x0C, 0x02, 0x02, 0x07, 0x50, 0x25, 0xF7]
        { syncing with connected := false, channel := 0 } =
        { syncing with connected := false, channel := 0, biteCount := 0 } := by
  refine ⟨by decide, rfl⟩

/-- 95, 2.7. -/
theorem test_patchchg :
    let t := rx refCfg [0xF0, 0x00, 0x00, 0x10, 0x00, 0x56, 0x2D, 0x00, 0x01, 0x07, 0x6D, 0xF7] idle
    tuple t = (true, true, true, 0, 0, 0) ∧ t.currentPatch = ⟨1, 7, []⟩ ∧
      t.outputs = [.tx [0xF0, 0x00, 0x00, 0x10, 0x00, 0x56, 0x20, 0x66, 0xF7]] := by decide

/-- 95, 2.7: RX.NAK and RX.UNREC. -/
theorem test_error_commands :
    let t := rx refCfg [0xF0, 0x00, 0x00, 0x10, 0x00, 0x56, 0x7F, 0x39, 0xF7] syncing
    let u := rx refCfg [0xF0, 0x00, 0x00, 0x10, 0x00, 0x56, 0x55, 0x13, 0xF7] syncing
    tuple t = (true, true, false, 0, 0, 0) ∧
      t.outputs = [.alert .protocolViolation .deviceReportedChecksumError "" ""] ∧ tuple u = tuple t ∧
      u.outputs = [.alert .protocolViolation (.unrecognizedCommand 0x55) "" ""] := by decide

/-- 95, 2.7 for 0A, and R225 to R232: each inert command hands its wire payload over and clears the count. -/
theorem test_inert_commands :
    ([(.rxAmpcabReq 0 [0x11], 0x07), (.rxX0A 0 [0x11], 0x0A), (.rxNamesReq 0 [0x11], 0x12),
      (.rxCurnameReq 0 [0x11], 0x20), (.rxExpr 0 [0x11], 0x26), (.rxX28 0 [0x11], 0x28), (.rxCustom 0 [0x11], 0x2A),
      (.rxX2E 0 [0x11], 0x2E)] : List (Instr × Byte)).all
      (fun r => emitted (exec r.1 syncing) = [.dispatch (.block r.2 [0x11])]) = true := by decide

/-- 95, 2.7: a bad checksum is logged and feeds nothing. -/
theorem test_rx_bad_checksum :
    let t := rx refCfg [0xF0, 0x00, 0x00, 0x10, 0x00, 0x56, 0x05, 0x00, 0x01, 0x43, 0xF7] syncing
    t.biteCount = 2 ∧ t.outputs = [.log (.dropped (.checksumMismatch 0x43 0x42))] := by decide

/-- 95, P4 step 2: another manufacturer's frame. -/
theorem test_rx_foreign :
    (rx refCfg [0xF0, 0x00, 0x00, 0x11, 0x00, 0x56, 0x06, 0x00, 0x01, 0x05, 0x45, 0xF7] syncing).outputs =
      [.log (.dropped .notForThisDevice)] := by decide

/-- 95, 2.7. -/
theorem test_passthru :
    exec (.rxPassthru [0xC0, 0x05]) syncing =
      .next { syncing with biteCount := 0, outputs := [.dispatch (.passThrough [0xC0, 0x05])] } := rfl

/-- 95, 2.7: a tick from 2. -/
theorem test_tick :
    let t := wdTick refCfg syncing
    t.biteCount = 3 ∧ t.outputs = [.tx [0xF0, 0x00, 0x00, 0x10, 0x00, 0x56, 0x76, 0x30, 0xF7]] := by decide

/-- 95, 2.7: a tick from 4 during an upload. -/
theorem test_tick_resync :
    let t := wdTick refCfg (session true true false 3 4 0)
    tuple t = (true, false, true, 0, 0, 0) ∧
      t.outputs = [.notify .disconnected, .tx [0xF0, 0x7E, 0x7F, 0x06, 0x01, 0xF7]] := by decide

/-- 95, P1 step 1: RESET. -/
theorem test_reset :
    tuple (resetSession refCfg (session true true true 3 4 9)) = (false, false, false, 0, 0, 0) := by decide

/-- 95, P1 step 2, and P4 step 13. -/
theorem test_ports :
    tuple (openPort refCfg (session false false false 0 0 0)) = (true, false, true, 0, 0, 0) ∧
      (openPort refCfg (session false false false 0 0 0)).outputs = [.tx [0xF0, 0x7E, 0x7F, 0x06, 0x01, 0xF7]] ∧
      tuple (closePort syncing) = (false, false, false, 0, 0, 0) ∧
      (closePort syncing).outputs = [.notify .disconnected] := by decide

/-- 95, P4 step 5; R202: FullResync has the same effect. -/
theorem test_host_resync :
    tuple (hostResync refCfg idle) = (true, false, true, 0, 0, 0) ∧
      (hostResync refCfg idle).outputs = [.notify .disconnected, .tx [0xF0, 0x7E, 0x7F, 0x06, 0x01, 0xF7]] ∧
      hostResync refCfg idle = fullResync refCfg idle := by decide

/-- 95, P4 step 15; R257: a command with bit 7. -/
theorem test_host_send :
    (hostSend refCfg 0x2D [0x01, 0x07] (session false false false 0 0 0)).outputs = [.log .portNotOpen] ∧
      (hostSend refCfg 0x80 [] idle).outputs = [.log .sendRefused] := by decide

/-- R201, with the bytes of 95, 2.5. -/
theorem test_send :
    (send refCfg 0x24 p5raw idle).outputs = [.tx p5frame] ∧
      emitted (exec (.txHost 0x24 p5raw) idle) = [.tx p5frame] := by decide

/-- R206. -/
theorem test_rawOf :
    result (exec (.rawOf (parsed [0x00, 0x01])) idle) = some (.bytes [0x01]) ∧
      result (exec (.rawOf (parsed [0x00])) idle) = some (.err (.payloadMalformed 0x05)) := by decide

/-- R317. -/
theorem test_abort :
    let t := abort refCfg .patternMismatch (session true true true 3 4 0)
    tuple t = (true, true, false, 0, 4, 0) ∧ t.outputs = [.alert .protocolViolation .patternMismatch "" ""] := by decide

/-- R292: the one title the source gives. -/
theorem test_alert_title : cfg.alertTitle .patternMismatch = "pattern mismatch" := by decide

/-- 95, P2 step 1. -/
theorem test_upload_start :
    let t := uploadStart refCfg (hostBlock 0x24 p5raw) (hostBlock 0x2A [0x01, 0x80]) (hostBlock 0x2A [0x02])
      (hostBlock 0x2A [0x03]) (hostBlock 0x2A [0x04]) (hostBlock 0x26 [0xFF, 0xFF]) (hostBlock 0x28 [])
      (hostBlock 0x22 []) idle
    t.uploadPhase = 1 ∧ t.uploadBlocks = p2blocks ∧ t.outputs = [.tx p5frame] := by decide

/-- R250: the eighth block's command has bit 7, and a block that is syncing. -/
theorem test_upload_refused :
    let go := fun cmd => uploadStart refCfg (hostBlock 0 []) (hostBlock 0 []) (hostBlock 0 []) (hostBlock 0 [])
      (hostBlock 0 []) (hostBlock 0 []) (hostBlock 0 []) (hostBlock cmd [])
    (go 0x80 idle).outputs = [.log .uploadRefused] ∧ (go 0x7F syncing).outputs = [.log .uploadRefused] := by decide

/-- 95, P2 steps 4 and 5: phase 2 awaits 24, not 2A. -/
theorem test_ack :
    let s := { idle with uploadPhase := 2, uploadBlocks := p2blocks }
    rx refCfg [0xF0, 0x00, 0x00, 0x10, 0x00, 0x56, 0x7E, 0x00, 0x2A, 0x12, 0xF7] s = s ∧
      rx refCfg [0xF0, 0x00, 0x00, 0x10, 0x00, 0x56, 0x7E, 0x00, 0x24, 0x1C, 0xF7] s =
        { s with
          uploadPhase := 3
          outputs := [.tx [0xF0, 0x00, 0x00, 0x10, 0x00, 0x56, 0x2A, 0x00, 0x02, 0x6E, 0xF7]] } := ⟨rfl, rfl⟩

/-- 95, P2 step 12: the last acknowledgement sends block 8 and ends the upload. -/
theorem test_last_ack :
    let t := rx refCfg [0xF0, 0x00, 0x00, 0x10, 0x00, 0x56, 0x7E, 0x00, 0x28, 0x10, 0xF7]
      { idle with uploadPhase := 7, uploadBlocks := p2blocks }
    label t = .connectedIdle ∧ t.outputs = [.tx [0xF0, 0x00, 0x00, 0x10, 0x00, 0x56, 0x22, 0x64, 0xF7]] := by decide

/-- 95, 2.5, as sent from channel 0. -/
theorem test_own_messages :
    ([(.txStatusReq, [0xF0, 0x00, 0x00, 0x10, 0x00, 0x56, 0x05, 0x00, 0x01, 0x42, 0xF7]),
      (.txNamesReq .factory, [0xF0, 0x00, 0x00, 0x10, 0x00, 0x56, 0x12, 0x00, 0x00, 0x54, 0xF7]),
      (.txNamesReq .user, [0xF0, 0x00, 0x00, 0x10, 0x00, 0x56, 0x12, 0x00, 0x01, 0x55, 0xF7]),
      (.txAmpcabReq, [0xF0, 0x00, 0x00, 0x10, 0x00, 0x56, 0x07, 0x41, 0xF7]),
      (.txCurnameReq, [0xF0, 0x00, 0x00, 0x10, 0x00, 0x56, 0x20, 0x66, 0xF7]),
      (.txKeepalive, [0xF0, 0x00, 0x00, 0x10, 0x00, 0x56, 0x76, 0x30, 0xF7]),
      (.txAck, [0xF0, 0x00, 0x00, 0x10, 0x00, 0x56, 0x7E, 0x00, 0x21, 0x19, 0xF7])] : List (Instr × Bytes)).all
      (fun r => emitted (exec r.1 idle) = [.tx r.2]) = true := by decide

/-- R29, R351 (log 32): in phase 0, and above 7, TX.UPLOAD reads no block. -/
theorem test_txUpload_without_upload :
    exec (.txUpload 1) { idle with uploadBlocks := p2blocks } = .next { idle with uploadBlocks := p2blocks } ∧
      exec (.txUpload 7) { idle with uploadPhase := 8 } = .next { idle with uploadPhase := 8 } := ⟨rfl, rfl⟩

/-- 95, P2: block 2 on channel 0; R104: the enquiry as it stands in the parameter. -/
theorem test_upload_and_enquiry :
    emitted (exec (.txUpload 1) { idle with uploadPhase := 1, uploadBlocks := p2blocks }) =
        [.tx [0xF0, 0x00, 0x00, 0x10, 0x00, 0x56, 0x2A, 0x20, 0x01, 0x00, 0x4D, 0xF7]] ∧
      (sendEnquiry refCfg idle).outputs = [.tx [0xF0, 0x7E, 0x7F, 0x06, 0x01, 0xF7]] := by decide

/-- R31: the labels of the five states of the table. -/
theorem test_labels :
    label (session false true true 3 0 0) = .disconnected ∧ label (session true false true 3 0 0) = .enquiring ∧
      label (session true false false 0 0 0) = .disconnected ∧ label (session true true true 3 0 0) = .uploading ∧
      label syncing = .syncing ∧ label idle = .connectedIdle := by decide

/-! Witnesses: concrete values that meet the hypotheses of the statements, for each clause. -/

theorem witness_VarintDecodeInvertsEncode :
    (0 : BitVec 32).toNat ≤ 0xFFFFFF ∧ (0xFFFFFF : BitVec 32).toNat ≤ 0xFFFFFF := by decide

theorem witness_VarintSequenceReadsEveryValue :
    ∀ v ∈ ([2000, 0xFFFFFF] : List (BitVec 32)), v.toNat ≤ 0xFFFFFF := by
  simp

theorem witness_VarintRowsReadTheirOwnBytes : 4 ≤ (4 : BitVec 7).toNat ∧ 4 ≤ (127 : BitVec 7).toNat := by decide

theorem witness_PackgroupGivesEachLaneItsFlag :
    (1 ≤ ([5] : List Seven).length ∧ ([5] : List Seven).length ≤ 7) ∧
      (1 ≤ ([1, 2, 3, 4, 5, 6, 7] : List Seven).length ∧ ([1, 2, 3, 4, 5, 6, 7] : List Seven).length ≤ 7) := by decide

/-- The lane clause at the first and the eighth byte, and the header clause at a lane that holds no byte. -/
theorem witness_PackLaysEveryByteInItsLane :
    ([0x80, 0x01, 0x82, 0x03, 0x84, 0x05, 0x86, 0x07] : Bytes)[0]? = some 0x80 ∧
      ([0x80, 0x01, 0x82, 0x03, 0x84, 0x05, 0x86, 0x07] : Bytes)[7]? = some 0x07 ∧
      (pack cfg [0x80, 0x01, 0x82, 0x03, 0x84, 0x05, 0x86, 0x07])[8 * 1]? = some 0x00 ∧ 8 ≤ 7 * 1 + 1 := by decide

/-- A wire payload that some raw payload packs to, and one that none does. -/
theorem witness_UnpackAcceptsExactlyWhatPackMakes :
    pack cfg [0x80] = [0x40, 0x00] ∧ ∀ x : Bytes, pack cfg x ≠ [0x00] := by
  refine ⟨by decide, fun x hx => ?_⟩
  by_cases h : x = []
  · subst h; exact absurd hx (by decide)
  · obtain ⟨b, bs, rfl⟩ := List.exists_cons_of_ne_nil h
    rw [pack_groups _ h] at hx
    simp [packGroup] at hx

theorem witness_FrameParseInvertsBuild : ∀ b ∈ ([0x00, 0x7F] : Bytes), b.toNat < 0x80 := by decide

/-- The first and the last index that may change. -/
theorem witness_FrameParseDetectsOneAlteredByte :
    let m : Bytes := [0xF0, 0x00, 0x00, 0x10, 0x00, 0x56, 0x05, 0x00, 0x01, 0x42, 0xF7]
    frameParse cfg m = .ok (parsed [0x00, 0x01]) ∧ 1 ≤ m.length - 2 ∧ m[1]? = some 0x00 ∧
      m[m.length - 2]? = some 0x42 ∧ (0x01 : Byte) ≠ 0 := by decide

theorem witness_FrameUnpackReadsThePayloadSlice :
    let m : Bytes := [0xF0, 0x00, 0x00, 0x10, 0x7F, 0x56, 0x00, 0x39, 0xF7]
    9 ≤ m.length ∧ frameParse cfg m = .ok ⟨⟨0x00, 0x00, 0x10⟩, 0x7F, 0x56, 0x00, [], 0x39⟩ ∧
      (m.take 8).length < 9 := by decide

theorem witness_RawOfTurnsPackMalformedIntoPayloadMalformed :
    unpack cfg (parsed [0x00, 0x01]).wire = .ok [0x01] ∧
      unpack cfg (parsed [0x00]).wire = .error (.packMalformed 0) := by decide

theorem witness_PortOpenStartsTheHandshake : ∃ t : State, exec .portOpen idle = .next t := ⟨_, rfl⟩

theorem witness_PortCloseClearsTheControlRegisters : ∃ t : State, exec .portClose idle = .next t := ⟨_, rfl⟩

theorem witness_FiveSilentTicksGiveExactlyOneResync :
    let s : State := { idle with pending := List.replicate 5 (.call .wdTick []) ++ [.inbound []] }
    s.portOpen = true ∧ s.biteCount = 0 ∧ s.pending = List.replicate 5 (.call .wdTick []) ++ [.inbound []] := by decide

theorem witness_RxDropsWhatIsNotAFrameOfTheDevice :
    State.reset.portOpen = false ∧ idle.portOpen = true ∧
      frameParse cfg [0xF0] = .error .frameMalformed ∧ ([0xF0] : Bytes).head? = some 0xF0 ∧
      frameParse cfg [0xF0, 0x00, 0x00, 0x11, 0x00, 0x56, 0x06, 0x00, 0x01, 0x05, 0x45, 0xF7] =
        .ok ⟨⟨0x00, 0x00, 0x11⟩, 0x00, 0x56, 0x06, [0x00, 0x01, 0x05], 0x45⟩ ∧
      (⟨0x00, 0x00, 0x11⟩ : MnfrId) ≠ ⟨0x00, 0x00, 0x10⟩ ∧
      frameParse cfg [0xF0, 0x00, 0x00, 0x10, 0x00, 0x57, 0x06, 0x41, 0xF7] =
        .ok ⟨⟨0x00, 0x00, 0x10⟩, 0x00, 0x57, 0x06, [], 0x41⟩ ∧ (0x57 : Byte) ≠ 0x56 := by decide

theorem witness_NonSysexMessagePassesThrough :
    (0xC0 : Byte) ≠ 0xF0 ∧ (0xF1 : Byte) ≠ 0xF0 ∧ idle.portOpen = true ∧ State.reset.portOpen = false := by decide

theorem witness_EnquiryAckConnectsAndAsksForStatus : syncing.portOpen = true := by decide

theorem witness_StatusResponseRecordsBankAndNumber : syncing.portOpen = true := by decide

theorem witness_NamesResponseStoresUserNamesOnly : syncing.portOpen = true := by decide

theorem witness_CurrentNameResponseIsAcknowledgedWhenResyncing : syncing.portOpen = true := by decide

theorem witness_PatchChangeStartsAMiniResync : syncing.portOpen = true := by decide

theorem witness_DumpIsHandedOverBeforeItsVerdict : syncing.portOpen = true := by decide

theorem witness_ErrorCommandsAbort : syncing.portOpen = true := by decide

theorem witness_InertCommandsAreForwarded : syncing.portOpen = true := by decide

/-- Full lists, no list at all, a payload that does not unpack, and payloads one byte short of either list. -/
theorem witness_AmpCabResponseReadsBothLists :
    syncing.portOpen = true ∧
      (∀ e ∈ ([(⟨5, [1, 2, 3, 4, 5, 6]⟩, 0)] : List (NameEntry × Byte)) ++ [(⟨6, [1, 2, 3, 4, 5, 7]⟩, 9)],
        e.1.name.length = 6) ∧
      unpack cfg (pack cfg [1, 5, 1, 2, 3, 4, 5, 6, 0, 1, 6, 1, 2, 3, 4, 5, 7, 9, 0xFF]) = .ok (
        [BitVec.ofNat 8 1] ++
          ([(⟨5, [1, 2, 3, 4, 5, 6]⟩, 0)] : List (NameEntry × Byte)).flatMap (fun e => [e.1.index] ++ e.1.name ++ [e.2]) ++
        [BitVec.ofNat 8 1] ++
          ([(⟨6, [1, 2, 3, 4, 5, 7]⟩, 9)] : List (NameEntry × Byte)).flatMap (fun e => [e.1.index] ++ e.1.name ++ [e.2]) ++
        [0xFF]) ∧
      unpack cfg [0x00] = .error (.packMalformed 0) ∧
      unpack cfg (pack cfg [1, 5, 1, 2, 3, 4, 5, 6, 0]) = .ok [1, 5, 1, 2, 3, 4, 5, 6, 0] ∧
      ([1, 5, 1, 2, 3, 4, 5, 6, 0] : Bytes).length < 2 + 8 * (([1, 5, 1, 2, 3, 4, 5, 6, 0] : Bytes).getD 0 0).toNat ∧
      unpack cfg (pack cfg [0, 1, 5, 1, 2, 3, 4, 5, 6]) = .ok [0, 1, 5, 1, 2, 3, 4, 5, 6] ∧
      ([0, 1, 5, 1, 2, 3, 4, 5, 6] : Bytes).length <
        2 + 8 * (([0, 1, 5, 1, 2, 3, 4, 5, 6] : Bytes).getD 0 0).toNat +
          8 * (([0, 1, 5, 1, 2, 3, 4, 5, 6] : Bytes).getD 1 0).toNat := by decide

theorem witness_EndOfDumpClearsResyncing :
    syncing.portOpen = true ∧ syncing.connected = true ∧ syncing.uploadPhase = 0 := by decide

/-- Not connected, connected with a triple, and connected with a payload of two bytes that holds no varint. -/
theorem witness_ParamChangeIsAlwaysAnsweredByAKeepAlive :
    (session true false true 0 0 0).connected = false ∧ syncing.portOpen = true ∧ syncing.connected = true ∧
      unpack cfg [0x14, 0x0C, 0x02, 0x02, 0x07, 0x50] = .ok [0x0C, 0x02, 0x82, 0x07, 0xD0] ∧
      varintDec [0x0C, 0x02, 0x82, 0x07, 0xD0] 2 = .ok (5, 2000) ∧ unpack cfg [0x00, 0x0C] = .ok [0x0C] ∧
      ([0x0C] : Bytes).length < 2 ∧ unpack cfg [0x00, 0x0C, 0x02] = .ok [0x0C, 0x02] ∧
      varintDec [0x0C, 0x02] 2 = .error (.varintTruncated 2) := by decide

/-- The first and the last phase. -/
theorem witness_AwaitedAckSendsTheNextBlock :
    idle.portOpen = true ∧ ({ idle with uploadPhase := 1 } : State).uploadPhase.toNat = (1 : Fin 8).val ∧
      unpack cfg [0x00, 0x21] = .ok [0x21] ∧
      ([0x21, 0x24, 0x2A, 0x2A, 0x2A, 0x26, 0x28] : Bytes)[(1 : Fin 8).val - 1]? = some 0x21 ∧
      ({ idle with uploadPhase := 7 } : State).uploadPhase.toNat = (7 : Fin 8).val ∧
      unpack cfg [0x00, 0x28] = .ok [0x28] ∧
      ([0x21, 0x24, 0x2A, 0x2A, 0x2A, 0x26, 0x28] : Bytes)[(7 : Fin 8).val - 1]? = some 0x28 := by decide

/-- Phase 0, a phase above 7, another subcode, an empty payload, and one that does not unpack. -/
theorem witness_UnawaitedAckIsInert :
    idle.portOpen = true ∧ unpack cfg [0x00, 0x28] = .ok [0x28] ∧ idle.uploadPhase = 0 ∧
      7 < ({ idle with uploadPhase := 8 } : State).uploadPhase.toNat ∧
      ([0x21, 0x24, 0x2A, 0x2A, 0x2A, 0x26, 0x28] : Bytes)[(2 : BitVec 4).toNat - 1]? ≠ some 0x28 ∧
      unpack cfg [] = .ok [] ∧ unpack cfg [0x00] = .error (.packMalformed 0) := by decide

theorem witness_ClosedPortDeliversNoFrame : State.reset.portOpen = false := by decide

/-- Mid-upload at the largest phase and bite count, with one tick pending. -/
theorem witness_EveryStepKeepsTheSessionSafe :
    let s := { session true true false 7 4 (resetChannel cfg) with pending := [.call .wdTick []] }
    SessionOk s ∧ ∃ t : State, step s = .next t := by
  refine ⟨⟨by decide, by decide, fun ch h => ?_, by decide, by decide⟩, ⟨_, rfl⟩⟩
  simp [session, resetChannel, h]

theorem witness_ClosedPortStaysIdle :
    ClosedIdle State.reset ∧ ClosedIdle idle ∧ Instr.portClose ≠ .fullResync ∧
      ∃ t : State, exec .portClose idle = .next t :=
  ⟨⟨by decide⟩, ⟨by decide⟩, by decide, ⟨_, rfl⟩⟩

theorem witness_StepsOnlyAppendToTheOutputs :
    ∃ t : State, step { syncing with pending := [.inbound [0xC0, 0x05], .call .reset []] } = .next t := ⟨_, rfl⟩

theorem witness_OnlyTheEnquiryAckConnects :
    ∃ t : State, exec (.rxEnqack1 3 []) (session true false true 0 0 0) = .next t ∧
      (session true false true 0 0 0).connected = false ∧ t.connected = true :=
  ⟨_, rfl, rfl, by simp [onFrame_open, session, handleEnqack1, enquiryAnswered, txStatusReq]⟩

theorem witness_OnlyUploadStartBeginsAnUpload :
    ∃ t : State, exec (.uploadStart (hostBlock 1 []) (hostBlock 2 []) (hostBlock 3 []) (hostBlock 4 []) (hostBlock 5 [])
      (hostBlock 6 []) (hostBlock 7 []) (hostBlock 8 [])) idle = .next t ∧ idle.uploadPhase = 0 ∧ t.uploadPhase ≠ 0 :=
  ⟨_, rfl, rfl, by decide⟩

/-- A state that has sent the enquiry and a frame, with a tick pending. -/
theorem witness_EveryTransmittedMessageIsAValidFrame :
    let s := { idle with outputs := [.tx cfg.enquiryFrame, .tx p5frame], pending := [.call .wdTick []] }
    TransmitsFrames s.outputs ∧ ∃ t : State, step s = .next t := by
  refine ⟨fun m hm => ?_, ⟨_, rfl⟩⟩
  simp only [List.mem_cons, List.not_mem_nil, or_false, Output.tx.injEq] at hm
  rcases hm with rfl | rfl
  · exact .inl rfl
  · exact .inr ⟨⟨⟨0x00, 0x00, 0x10⟩, 0x00, 0x56, 0x24, pack cfg p5raw, 0x1A⟩, by decide, by decide⟩

theorem witness_ClosedPortTransmitsNothing :
    let s := { State.reset with outputs := [.tx [0xF7]] }
    s.portOpen = false ∧ Instr.wdTick ≠ .portOpen ∧ Instr.wdTick ≠ .fullResync ∧ Instr.wdTick ≠ .txEnquiry ∧
      ∃ t : State, exec .wdTick s = .next t :=
  ⟨rfl, by decide, by decide, by decide, _, rfl⟩

theorem witness_EveryInstructionAnswersANextState :
    ∀ item ∈ ({ idle with pending := [.call .wdTick []] } : State).pending.head?, ∃ i : Instr, decode item = .ok i := by
  intro item h
  cases h
  exact ⟨_, rfl⟩

theorem witness_StepRunsTheDecodedItem :
    ({ idle with pending := [.rawBytes [0x84]] } : State).pending = .rawBytes [0x84] :: [] ∧
      decode (.rawBytes [0x84]) = .ok (.varintIllegalN 4) ∧ idle.pending = [] := by decide

/-- A well-formed instruction of every row that has a condition; TX.ENQUIRY's is on an OPEN parameter (log 12, log 19). -/
theorem witness_DecodeInvertsEncode :
    ∀ i ∈ [Instr.varintIllegalN 4, .packgroup 0x7F [1, 2, 3, 4, 5, 6, 7], .rxPassthru [0xEF], .rxEnqack1 0x7F [0x7F],
      .rxUnrec 0x55 3 [0x7F], .txHost 0x05 [0x02], .txUpload 7, .abort .lookupMiss], WellFormed i := by decide

/-- Both acknowledgements, wire payloads that are and that are not a packed payload, and payloads that parse. -/
theorem witness_HandshakeIssuesItsRequestsInOrder :
    ((0x01 : Seven) = 0x01 ∨ (0x01 : Seven) = 0x02) ∧ ((0x02 : Seven) = 0x01 ∨ (0x02 : Seven) = 0x02) ∧
      (∀ b ∈ ([0x00] : Bytes) ++ [0x7F, 0x01], b.toNat < 0x80) ∧ refParseStatus [1, 5] = some (1, 5) ∧ refParseNames [0, 1, 0x41, 0] = some (0x00, [[0x41]]) ∧
      refParseNames [1, 1, 0x42, 0] = some (0x01, [[0x42]]) ∧ refParsePatchName [0x50] = some [0x50] ∧
      refCfg.patchDumpWalk p5raw = .ok ∧
      nameList (.payloadMalformed 0x08) [1, 5, 0x41, 0x42, 0x43, 0x44, 0x45, 0x46, 0xFF, 0] 0 =
        .ok ([⟨5, [0x41, 0x42, 0x43, 0x44, 0x45, 0x46]⟩], 9) ∧
      nameList (.payloadMalformed 0x08) [1, 5, 0x41, 0x42, 0x43, 0x44, 0x45, 0x46, 0xFF, 0] 9 = .ok ([], 10) := by decide

end Sys2Proof.Tests
end

section
/-! PROOFS. The family of spec/10_state.md. What one instruction can do to the registers of the link (`portOpen`, `connected`, `channel`,
`uploadPhase`, `biteCount`) is said once, in `exec_linkEffect`: it keeps the link, drops it, or gains it by an enquiry acknowledgement. The
statements about those registers are read off the three cases. -/

namespace Sys2Proof.Machine

/-- The registers the session invariant speaks of. -/
def State.link (s : State) : Bool × Bool × Seven × BitVec 4 × BitVec 3 :=
  (s.portOpen, s.connected, s.channel, s.uploadPhase, s.biteCount)

@[simp] theorem link_send (c : Cfg) (cmd : Seven) (raw : Bytes) (s : State) : (send c cmd raw s).link = s.link := by
  simp [State.link]

/-- From `s` to `t` port, connection and channel are kept; the bite count stays or is below the limit; the upload phase stays, returns to 0, or
is a phase of an upload that runs, or starts, in `s`. -/
structure KeepsLink (s t : State) : Prop where
  portOpen : t.portOpen = s.portOpen
  connected : t.connected = s.connected
  channel : t.channel = s.channel
  biteCount : t.biteCount = s.biteCount ∨ t.biteCount.toNat < cfg.wdLimit
  uploadPhase : t.uploadPhase = s.uploadPhase ∨ t.uploadPhase = 0 ∨
    (t.uploadPhase.toNat ≤ 7 ∧ (s.connected = true ∨ s.uploadPhase ≠ 0))

/-- From `s` to `t` the connection ends: PORT.OPEN, PORT.CLOSE, FullResync and RESET. -/
structure DropsLink (s t : State) : Prop where
  connected : t.connected = false
  biteCount : t.biteCount = 0
  uploadPhase : t.uploadPhase = 0
  channel : t.channel = s.channel ∨ t.channel = resetChannel cfg

/-- From `s` to `t` an enquiry is answered on an open port (R213). -/
structure GainsLink (s t : State) : Prop where
  portOpen : t.portOpen = true
  connected : t.connected = true
  biteCount : t.biteCount = 0
  uploadPhase : t.uploadPhase = s.uploadPhase
  channel : cfg.channelLock = none ∨ t.channel = s.channel

/-- The instruction is the arrival of an enquiry acknowledgement, by its row or by the event RX. -/
def AnswersEnquiry (i : Instr) : Prop :=
  ∃ (ch : Seven) (wire : Bytes),
    i = .rxEnqack1 ch wire ∨ i = .rxEnqack2 ch wire ∨
    ∃ m : Bytes, i = .rx m ∧ (decodeInbound m = .rxEnqack1 ch wire ∨ decodeInbound m = .rxEnqack2 ch wire)

/-- Everything the instruction `i` can do to the link on the way from `s` to `t`. -/
inductive LinkEffect (i : Instr) (s t : State) : Prop
  | keeps (h : KeepsLink s t)
  | drops (h : DropsLink s t)
  | gains (hi : AnswersEnquiry i) (h : GainsLink s t)

/-! The shared operations keep the link. Each lemma extends a run that has kept it so far. -/

namespace KeepsLink

variable {s t u : State} {c : Cfg}

theorem refl (s : State) : KeepsLink s s :=
  ⟨rfl, rfl, rfl, .inl rfl, .inl rfl⟩

/-- What writes none of the link's registers keeps the link. -/
theorem of_link_eq (h : KeepsLink s t) (e : u.link = t.link) : KeepsLink s u := by
  simp only [State.link, Prod.mk.injEq] at e
  obtain ⟨hport, hconn, hchan, hphase, hbite⟩ := e
  exact ⟨hport ▸ h.portOpen, hconn ▸ h.connected, hchan ▸ h.channel, hbite ▸ h.biteCount, hphase ▸ h.uploadPhase⟩

theorem emit (h : KeepsLink s t) (o : Output) : KeepsLink s (t.emit o) :=
  h.of_link_eq rfl

theorem send (h : KeepsLink s t) (cmd : Seven) (raw : Bytes) : KeepsLink s (send c cmd raw t) :=
  h.of_link_eq (link_send ..)

/-- A handler writes registers that are none of the link's, and then sends. -/
theorem send_of_link_eq (h : KeepsLink s t) {cmd : Seven} {raw : Bytes} (e : u.link = t.link) :
    KeepsLink s (Machine.send c cmd raw u) :=
  (h.of_link_eq e).send cmd raw

theorem feed (s : State) : KeepsLink s s.feed :=
  ⟨rfl, rfl, rfl, .inr (by simp), .inl rfl⟩

theorem abort (h : KeepsLink s t) (x : ErrorCode) : KeepsLink s (abort c x t) :=
  ⟨h.portOpen, h.connected, h.channel, h.biteCount, .inr (.inl rfl)⟩

theorem ite {p : Prop} [Decidable p] (ht : KeepsLink s t) (hu : KeepsLink s u) : KeepsLink s (if p then t else u) := by
  split
  · exact ht
  · exact hu

/-- R318: a handler keeps the link if what it does with its operands does. -/
theorem orAbort {α : Type} {r : Except ErrorCode α} {go : α → State} (h : KeepsLink s t)
    (hgo : ∀ a, KeepsLink s (go a)) : KeepsLink s (orAbort c r t go) := by
  obtain ⟨a, -, e⟩ | ⟨x, -, e⟩ := orAbort_cases c r t go
  · exact e ▸ hgo a
  · exact e ▸ h.abort x

/-- R252: the upload in progress in `t` was in progress, or its connection open, in `s`. -/
theorem connected_or_phase (h : KeepsLink s t) (ht : t.uploadPhase ≠ 0) : s.connected = true ∨ s.uploadPhase ≠ 0 := by
  obtain same | zero | ⟨-, runs⟩ := h.uploadPhase
  · exact .inr (same ▸ ht)
  · exact absurd zero ht
  · exact runs

/-! The handlers of R215 to R252, but for the enquiry acknowledgements. -/

theorem handleStatus (h : KeepsLink s t) (p : ParsedFrame) : KeepsLink s (handleStatus c p t) :=
  h.orAbort fun _ => .ite (h.send_of_link_eq rfl) (h.of_link_eq rfl)

theorem handleNames (h : KeepsLink s t) (p : ParsedFrame) : KeepsLink s (handleNames c p t) :=
  h.orAbort fun _ => .ite (.ite (h.send_of_link_eq rfl) (h.send_of_link_eq rfl)) (h.of_link_eq rfl)

theorem handleAmpcab (h : KeepsLink s t) (p : ParsedFrame) : KeepsLink s (handleAmpcab c p t) :=
  h.orAbort fun _ => .ite (h.send_of_link_eq rfl) (h.emit _)

theorem handleCurname (h : KeepsLink s t) (p : ParsedFrame) : KeepsLink s (handleCurname c p t) :=
  h.orAbort fun _ => .ite (h.send_of_link_eq rfl) (h.of_link_eq rfl)

theorem handleDump (h : KeepsLink s t) (p : ParsedFrame) : KeepsLink s (handleDump c p t) := by
  refine h.orAbort fun raw => ?_
  cases hw : c.patchDumpWalk raw with
  | ok => simpa only [hw] using h.emit _
  | patternMismatch => simpa only [hw] using (h.emit _).abort _

theorem handleEnddump (h : KeepsLink s t) (p : ParsedFrame) : KeepsLink s (handleEnddump c p t) :=
  h.of_link_eq rfl

theorem handleParam (h : KeepsLink s t) (p : ParsedFrame) : KeepsLink s (handleParam c p t) :=
  .ite (.send (h.orAbort fun _ => .ite (h.emit _) h) _ _) h

theorem handlePatchchg (h : KeepsLink s t) (p : ParsedFrame) : KeepsLink s (handlePatchchg c p t) :=
  h.orAbort fun _ => h.send_of_link_eq rfl

theorem forwardBlock (h : KeepsLink s t) (cmd : Byte) (p : ParsedFrame) : KeepsLink s (forwardBlock cmd p t) :=
  h.emit _

/-- R252, R253: a running upload goes to the next phase, or from phase 7 back to 0. -/
theorem uploadAdvance (h : KeepsLink s t) (ht : uploadRuns t) : KeepsLink s (uploadAdvance c t.uploadPhase.toNat t) := by
  have hsend : KeepsLink s (txUpload c (Fin.ofNat 8 t.uploadPhase.toNat) t) := h.send _ _
  have hnext : (if t.uploadPhase.toNat = 7 then (0 : BitVec 4) else BitVec.ofNat 4 (t.uploadPhase.toNat + 1)).toNat ≤ 7 := by
    obtain ⟨-, hle⟩ := ht
    split
    · decide
    · rw [BitVec.toNat_ofNat]; omega
  have hpos : t.uploadPhase ≠ 0 := fun e => by simp [uploadRuns, e] at ht
  exact ⟨hsend.portOpen, hsend.connected, hsend.channel, hsend.biteCount, .inr (.inr ⟨hnext, h.connected_or_phase hpos⟩)⟩

theorem handleAck (h : KeepsLink s t) (p : ParsedFrame) : KeepsLink s (handleAck c p t) := by
  obtain ⟨-, -, runs, -, e⟩ | ⟨-, -, e⟩ | ⟨x, -, e⟩ := handleAck_cases c p t
  · rw [e]; exact h.uploadAdvance runs
  · rw [e]; exact h
  · rw [e]; exact h.abort x

/-- R210: a handler that keeps the link does so behind the front end, which feeds the watchdog. -/
theorem onFrame {cmd ch : Seven} {wire : Bytes} {handler : Cfg → ParsedFrame → State → State}
    (h : ∀ p, KeepsLink s (handler c p s.feed)) : KeepsLink s (onFrame c cmd handler ch wire s) :=
  .ite (h _) (.refl s)

/-- R250: a started upload is in phase 1 on a connected link; a refused one writes a log line. -/
theorem uploadStart (b1 b2 b3 b4 b5 b6 b7 b8 : HostBlock) (s : State) :
    KeepsLink s (uploadStart c b1 b2 b3 b4 b5 b6 b7 b8 s) := by
  obtain ⟨may, -, e⟩ | e := uploadStart_cases c b1 b2 b3 b4 b5 b6 b7 b8 s
  · simp only [uploadMayStart, Bool.and_eq_true] at may
    obtain ⟨⟨⟨-, hconn⟩, -⟩, -⟩ := may
    have hphase : (1 : BitVec 4).toNat ≤ 7 := by decide
    rw [e]
    exact ⟨send_portOpen .., send_connected .., send_channel .., .inl (send_biteCount ..), .inr (.inr ⟨hphase, .inl hconn⟩)⟩
  · rw [e]; exact (refl s).emit _

end KeepsLink

/-! What drops the link, and what gains it. -/

theorem dropsLink_fullResync (s : State) : DropsLink s (fullResync cfg s) :=
  ⟨fullResync_connected .., fullResync_biteCount .., fullResync_uploadPhase .., .inl (fullResync_channel ..)⟩

theorem dropsLink_openPort (s : State) : DropsLink s (openPort cfg s) :=
  ⟨fullResync_connected .., fullResync_biteCount .., fullResync_uploadPhase .., .inl (fullResync_channel ..)⟩

theorem dropsLink_closePort (s : State) : DropsLink s (closePort s) :=
  ⟨rfl, rfl, rfl, .inl (noticeDisconnect_channel s)⟩

theorem dropsLink_resetSession (s : State) : DropsLink s (resetSession cfg s) :=
  ⟨rfl, rfl, rfl, .inr rfl⟩

/-- R213, R27: the acknowledgement's channel is adopted only without a lock. -/
theorem gainsLink_enquiryAnswered (p : ParsedFrame) (s : State) (ho : s.portOpen = true) :
    GainsLink s (enquiryAnswered cfg p s.feed) := by
  unfold enquiryAnswered txStatusReq
  constructor
  case channel =>
    by_cases hl : cfg.channelLock = none
    · exact .inl hl
    · right; simp only [send_channel, hl, if_false]; split <;> rfl
  all_goals simp only [send_portOpen, send_connected, send_biteCount, send_uploadPhase]
  all_goals split <;> simp [ho]

/-- R210, R213, R214: the two acknowledgements' rows behind the front end. -/
theorem linkEffect_onFrame_enquiryAnswered {i : Instr} (hi : AnswersEnquiry i) (cmd ch : Seven) (wire : Bytes) (s : State) :
    LinkEffect i s (onFrame cfg cmd enquiryAnswered ch wire s) := by
  cases ho : s.portOpen with
  | false => rw [onFrame_closed _ _ _ _ _ _ ho]; exact .keeps (.refl s)
  | true => rw [onFrame_open _ _ _ _ _ _ ho]; exact .gains hi (gainsLink_enquiryAnswered _ s ho)

/-! The event RX: the handler that a message reaches is that of the row it decodes to. -/

/-- R102: a command byte that selects a command is that command's code. -/
theorem eq_wide_inCode {b : Byte} {k : InCmd} (h : inCommand b = some k) : b = wide (inCode k) := by
  unfold inCommand at h
  split at h <;> cases h <;> exact BitVec.eq_of_toNat_eq ‹_›

/-- R210, R212: a message the front end accepts decodes to the row of its command. -/
theorem decodeInbound_accepted {m : Bytes} {p : ParsedFrame} (hm : m.head? = some 0xF0) (hp : frameParse cfg m = .ok p)
    (hd : forThisDevice cfg p = true) :
    decodeInbound m = inboundRow (low7 p.commandCode) (low7 p.midiChannel) p.wire := by
  obtain ⟨bs, rfl⟩ : ∃ bs, m = 0xF0 :: bs := by
    cases m with
    | nil => cases hm
    | cons b bs => exact ⟨bs, by rw [Option.some.inj hm]⟩
  simp only [decodeInbound, ne_eq, not_true_eq_false, if_false, hp, hd, if_true]

/-- R212: a handler keeps the link, or it is that of an enquiry acknowledgement. -/
theorem handle_cases {s t : State} (p : ParsedFrame) (h : KeepsLink s t) :
    KeepsLink s (handle cfg p t) ∨
    ((inCommand p.commandCode = some .enqack1 ∨ inCommand p.commandCode = some .enqack2) ∧
      handle cfg p t = enquiryAnswered cfg p t) := by
  unfold handle
  cases hk : inCommand p.commandCode with
  | none => exact .inl (h.abort _)
  | some k =>
    cases k with
    | enqack1 => exact .inr ⟨.inl rfl, rfl⟩
    | enqack2 => exact .inr ⟨.inr rfl, rfl⟩
    | status => exact .inl (h.handleStatus p)
    | ampcab => exact .inl (h.handleAmpcab p)
    | names => exact .inl (h.handleNames p)
    | curname => exact .inl (h.handleCurname p)
    | enddump => exact .inl (h.handleEnddump p)
    | dump => exact .inl (h.handleDump p)
    | param => exact .inl (h.handleParam p)
    | patchchg => exact .inl (h.handlePatchchg p)
    | ack => exact .inl (h.handleAck p)
    | nak => exact .inl (h.abort _)
    | ampcabReq | x0A | namesReq | curnameReq | expr | x28 | custom | x2E => exact .inl (h.forwardBlock _ p)

/-- R212: a message whose command byte is an enquiry acknowledgement's decodes to that row. -/
theorem answersEnquiry_rx {m : Bytes} {p : ParsedFrame} (hm : m.head? = some 0xF0) (hp : frameParse cfg m = .ok p)
    (hd : forThisDevice cfg p = true)
    (hk : inCommand p.commandCode = some .enqack1 ∨ inCommand p.commandCode = some .enqack2) :
    AnswersEnquiry (.rx m) := by
  refine ⟨low7 p.midiChannel, p.wire, .inr (.inr ⟨m, rfl, ?_⟩)⟩
  rw [decodeInbound_accepted hm hp hd]
  exact hk.imp (fun hk => by rw [eq_wide_inCode hk]; rfl) (fun hk => by rw [eq_wide_inCode hk]; rfl)

theorem linkEffect_rx (m : Bytes) (s : State) : LinkEffect (.rx m) s (rx cfg m s) := by
  obtain ⟨-, e⟩ | ⟨-, -, e⟩ | ⟨-, -, -, e⟩ | ⟨x, -, -, -, e⟩ | ⟨p, -, -, -, -, e⟩ | ⟨p, ho, hm, hp, hd, e⟩ := rx_cases cfg m s
  case inr.inr.inr.inr.inr =>
    rw [e]
    obtain hkeeps | ⟨hk, e'⟩ := handle_cases p (.feed s)
    · exact .keeps hkeeps
    · exact e' ▸ .gains (answersEnquiry_rx hm hp hd hk) (gainsLink_enquiryAnswered p s ho)
  case inl => rw [e]; exact .keeps (.refl s)
  case inr.inr.inl => rw [e]; exact .keeps ((KeepsLink.feed s).emit _)
  all_goals rw [e]; exact .keeps ((KeepsLink.refl s).emit _)

/-- R270: a tick below the limit counts, one at the limit resyncs. -/
theorem linkEffect_wdTick (s : State) : LinkEffect .wdTick s (wdTick cfg s) := by
  obtain ⟨-, e⟩ | ⟨-, -, e⟩ | ⟨-, hlt, e⟩ := wdTick_cases cfg s
  · rw [e]; exact .keeps (.refl s)
  · rw [e]; exact .drops (dropsLink_fullResync s)
  · have hcount : (BitVec.ofNat 3 (s.biteCount.toNat + 1)).toNat < cfg.wdLimit := by
      rw [BitVec.toNat_ofNat]; exact Nat.lt_of_le_of_lt (Nat.mod_le ..) hlt
    have hcounted : KeepsLink s { s with biteCount := BitVec.ofNat 3 (s.biteCount.toNat + 1) } :=
      ⟨rfl, rfl, rfl, .inr hcount, .inl rfl⟩
    rw [e]; exact .keeps (hcounted.send _ _)

/-- Every instruction answers a next state, and does one of three things to the link. -/
theorem exec_linkEffect (i : Instr) (s : State) : ∃ t : State, exec i s = .next t ∧ LinkEffect i s t := by
  have keeps : ∀ {t : State}, KeepsLink s t → ∃ t' : State, (.next t : Outcome) = .next t' ∧ LinkEffect i s t' :=
    fun h => ⟨_, rfl, .keeps h⟩
  have self := KeepsLink.refl s
  have fed := KeepsLink.feed s
  cases i with
  | fullResync => exact ⟨_, rfl, .drops (dropsLink_fullResync s)⟩
  | reset => exact ⟨_, rfl, .drops (dropsLink_resetSession s)⟩
  | portOpen => exact ⟨_, rfl, .drops (dropsLink_openPort s)⟩
  | portClose => exact ⟨_, rfl, .drops (dropsLink_closePort s)⟩
  | hostResync =>
    refine ⟨_, rfl, ?_⟩
    unfold hostResync
    split
    · exact .drops (dropsLink_fullResync s)
    · exact .keeps (self.emit _)
  | wdTick => exact ⟨_, rfl, linkEffect_wdTick s⟩
  | rx m => exact ⟨_, rfl, linkEffect_rx m s⟩
  | rxEnqack1 ch wire => exact ⟨_, rfl, linkEffect_onFrame_enquiryAnswered ⟨ch, wire, .inl rfl⟩ 0x01 ch wire s⟩
  | rxEnqack2 ch wire => exact ⟨_, rfl, linkEffect_onFrame_enquiryAnswered ⟨ch, wire, .inr (.inl rfl)⟩ 0x02 ch wire s⟩
  | abort x => exact keeps (self.abort x)
  | hostSend cmd raw => exact keeps (.ite (self.send _ _) (self.emit _))
  | uploadStart b1 b2 b3 b4 b5 b6 b7 b8 => exact keeps (.uploadStart b1 b2 b3 b4 b5 b6 b7 b8 s)
  | rxPassthru m => exact keeps (.ite (fed.emit _) self)
  | rxStatus => exact keeps (.onFrame fed.handleStatus)
  | rxAmpcab => exact keeps (.onFrame fed.handleAmpcab)
  | rxNames => exact keeps (.onFrame fed.handleNames)
  | rxCurname => exact keeps (.onFrame fed.handleCurname)
  | rxEnddump => exact keeps (.onFrame fed.handleEnddump)
  | rxDump => exact keeps (.onFrame fed.handleDump)
  | rxParam => exact keeps (.onFrame fed.handleParam)
  | rxPatchchg => exact keeps (.onFrame fed.handlePatchchg)
  | rxAck => exact keeps (.onFrame fed.handleAck)
  | rxNak | rxUnrec => exact keeps (.onFrame fun _ => fed.abort _)
  | rxAmpcabReq | rxX0A | rxNamesReq | rxCurnameReq | rxExpr | rxX28 | rxCustom | rxX2E =>
    exact keeps (.onFrame (fed.forwardBlock _))
  | txUpload block => exact keeps (.ite (self.send _ _) self)
  | send | txStatusReq | txNamesReq | txAmpcabReq | txCurnameReq | txKeepalive | txAck | txHost => exact keeps (self.send _ _)
  | varintV1 | varintV2 | varintV3 | varintV4 | varintIllegal0 | varintIllegalN | packgroup | varintEnc | varintDec | pack | unpack
  | cksum | frameBuild | frameBuildP | frameParse | frameUnpack | rawOf | txEnquiry => exact keeps (self.of_link_eq rfl)

theorem linkEffect_of_exec {i : Instr} {s t : State} (h : exec i s = .next t) : LinkEffect i s t := by
  obtain ⟨t', ht', effect⟩ := exec_linkEffect i s
  cases ht'.symm.trans h
  exact effect

/-! The session invariant along the three effects. -/

theorem resetChannel_locked {c : Cfg} {ch : Seven} (h : c.channelLock = some ch) : resetChannel c = ch := by
  simp [resetChannel, h]

namespace SessionOk

variable {s t : State}

/-- An unconnected state with no upload, the watchdog fed and the channel locked is safe, whether the port is open or closed. -/
theorem of_unconnected (hconn : t.connected = false) (hbite : t.biteCount = 0) (hphase : t.uploadPhase = 0)
    (hchan : ∀ ch, cfg.channelLock = some ch → t.channel = ch) : SessionOk t where
  biteBelowLimit := by simp [hbite]
  phaseBelowEight := by simp [hphase]
  channelLocked := hchan
  uploadConnected := fun h => absurd hphase h
  connectedOpen := fun h => by simp [hconn] at h

theorem keeps (h : SessionOk s) (k : KeepsLink s t) : SessionOk t where
  biteBelowLimit := by
    obtain same | below := k.biteCount
    · exact same ▸ h.biteBelowLimit
    · exact below
  phaseBelowEight := by
    obtain same | zero | ⟨hle, -⟩ := k.uploadPhase
    · exact same ▸ h.phaseBelowEight
    · simp [zero]
    · exact hle
  channelLocked := k.channel ▸ h.channelLocked
  uploadConnected := fun ht => k.connected ▸ (k.connected_or_phase ht).elim id h.uploadConnected
  connectedOpen := k.connected ▸ k.portOpen ▸ h.connectedOpen

theorem drops (h : SessionOk s) (d : DropsLink s t) : SessionOk t := by
  refine of_unconnected d.connected d.biteCount d.uploadPhase fun ch hl => ?_
  obtain same | atReset := d.channel
  · exact same ▸ h.channelLocked ch hl
  · exact atReset ▸ resetChannel_locked hl

theorem gains (h : SessionOk s) (g : GainsLink s t) : SessionOk t where
  biteBelowLimit := by simp [g.biteCount]
  phaseBelowEight := g.uploadPhase ▸ h.phaseBelowEight
  channelLocked := fun ch hl => by
    obtain unlocked | same := g.channel
    · simp [unlocked] at hl
    · exact same ▸ h.channelLocked ch hl
  uploadConnected := fun _ => g.connected
  connectedOpen := fun _ => g.portOpen

/-- R70: the invariant says nothing of the queue. -/
theorem withPending (h : SessionOk s) (rest : List Item) : SessionOk { s with pending := rest } :=
  ⟨h.biteBelowLimit, h.phaseBelowEight, h.channelLocked, h.uploadConnected, h.connectedOpen⟩

/-- Every instruction keeps the session invariant. -/
theorem exec {i : Instr} (h : SessionOk s) (e : exec i s = .next t) : SessionOk t := by
  cases linkEffect_of_exec e with
  | keeps k => exact h.keeps k
  | drops d => exact h.drops d
  | gains _ g => exact h.gains g

theorem reset : SessionOk State.reset :=
  of_unconnected rfl rfl rfl fun _ => resetChannel_locked

end SessionOk

theorem closedIdle_reset : ClosedIdle State.reset :=
  ⟨fun _ => ⟨rfl, rfl, rfl, rfl⟩⟩

theorem label_of_closed {s : State} (h : s.portOpen = false) : label s = .disconnected := by
  simp [label, h]

/-- Settles O49: the queue's next item is an instruction, and every instruction keeps the invariant. -/
theorem everyStepKeepsTheSessionSafe : Obligations.EveryStepKeepsTheSessionSafe := by
  intro s t h hstep
  obtain ⟨-, e⟩ | ⟨-, rest, i, -, -, e⟩ | ⟨-, -, _, -, -, e⟩ := step_cases s
  · cases e.symm.trans hstep
    exact h
  · exact (h.withPending rest).exec (e.symm.trans hstep)
  · cases e.symm.trans hstep

/-- Settles O52: of the three effects on the link, only the one of an enquiry acknowledgement sets `connected`. -/
theorem onlyTheEnquiryAckConnects : Obligations.OnlyTheEnquiryAckConnects := by
  intro i s t hexec hbefore hafter
  cases linkEffect_of_exec hexec with
  | keeps k => simp [k.connected, hbefore] at hafter
  | drops d => simp [d.connected] at hafter
  | gains hi _ => exact hi

/-- Settles O48: RESET's registers are unconnected, with the port closed. -/
theorem resetStateIsASafeSession : Obligations.ResetStateIsASafeSession :=
  ⟨.reset, closedIdle_reset, rfl, label_of_closed rfl⟩

end Sys2Proof.Machine
end

section
/-! PROOFS. The family of spec/20_memory.md. Every instruction only appends to the outputs and leaves the queue alone, in `exec_onlyAppends`; a
step takes the queue's head before it runs one. -/

namespace Sys2Proof.Machine

/-- From `s` to `t` outputs are only added, behind the earlier ones (R72), and the queue is the environment's (R70). -/
structure OnlyAppends (s t : State) : Prop where
  outputs : s.outputs <+: t.outputs
  pending : t.pending = s.pending

/-! The shared operations. As for `KeepsLink`, each lemma extends a run that has only appended so far. -/

namespace OnlyAppends

variable {s t u : State}

theorem refl (s : State) : OnlyAppends s s :=
  ⟨⟨[], List.append_nil _⟩, rfl⟩

theorem trans (h : OnlyAppends s t) (k : OnlyAppends t u) : OnlyAppends s u :=
  ⟨h.outputs.trans k.outputs, k.pending.trans h.pending⟩

/-- Writing registers alone appends nothing. -/
theorem of_eq (h : OnlyAppends s t) (ho : u.outputs = t.outputs) (hp : u.pending = t.pending) : OnlyAppends s u :=
  ⟨ho ▸ h.outputs, hp ▸ h.pending⟩

theorem emit (h : OnlyAppends s t) (o : Output) : OnlyAppends s (t.emit o) :=
  h.trans ⟨⟨[o], rfl⟩, rfl⟩

theorem feed (s : State) : OnlyAppends s s.feed :=
  (refl s).of_eq rfl rfl

theorem send (h : OnlyAppends s t) (cmd : Seven) (raw : Bytes) : OnlyAppends s (send cfg cmd raw t) :=
  send_eq cmd raw t ▸ h.emit _

/-- A handler writes registers, and then sends. -/
theorem send_of_eq (h : OnlyAppends s t) {cmd : Seven} {raw : Bytes} (ho : u.outputs = t.outputs)
    (hp : u.pending = t.pending) : OnlyAppends s (Machine.send cfg cmd raw u) :=
  (h.of_eq ho hp).send cmd raw

theorem ite {p : Prop} [Decidable p] (ht : OnlyAppends s t) (hu : OnlyAppends s u) :
    OnlyAppends s (if p then t else u) := by
  split
  · exact ht
  · exact hu

/-- R317: the alert. -/
theorem abort (h : OnlyAppends s t) (x : ErrorCode) : OnlyAppends s (abort cfg x t) :=
  h.trans ⟨⟨_, (abort_outputs cfg x t).symm⟩, rfl⟩

/-- R318: a handler only appends if what it does with its operands does. -/
theorem orAbort {α : Type} {r : Except ErrorCode α} {go : α → State} (h : OnlyAppends s t)
    (hgo : ∀ a, OnlyAppends s (go a)) : OnlyAppends s (orAbort cfg r t go) := by
  obtain ⟨a, -, e⟩ | ⟨x, -, e⟩ := orAbort_cases cfg r t go
  · exact e ▸ hgo a
  · exact e ▸ h.abort x

/-- R202: the notification of a lost connection, if there was one, and the enquiry. -/
theorem fullResync (h : OnlyAppends s t) : OnlyAppends s (fullResync cfg t) :=
  h.trans ⟨by simp, fullResync_pending cfg t⟩

/-! The handlers of R213 to R252. -/

theorem enquiryAnswered (h : OnlyAppends s t) (p : ParsedFrame) : OnlyAppends s (enquiryAnswered cfg p t) :=
  have adopted : OnlyAppends s { t with channel := if cfg.channelLock = none then low7 p.midiChannel else t.channel } :=
    h.of_eq rfl rfl
  have noticed := adopted.ite (adopted.emit (.notify .connected))
  noticed.send_of_eq rfl rfl

theorem handleStatus (h : OnlyAppends s t) (p : ParsedFrame) : OnlyAppends s (handleStatus cfg p t) :=
  h.orAbort fun _ => .ite (h.send_of_eq rfl rfl) (h.of_eq rfl rfl)

theorem handleNames (h : OnlyAppends s t) (p : ParsedFrame) : OnlyAppends s (handleNames cfg p t) :=
  h.orAbort fun (bank, names) =>
    have notified := (h.of_eq (u := { t with userPatchNames := if bank = 0x01 then names else t.userPatchNames }) rfl rfl).emit
      (.notify (.patchNamesUpdated bank names))
    .ite (.ite (notified.send _ _) (notified.send _ _)) notified

theorem handleAmpcab (h : OnlyAppends s t) (p : ParsedFrame) : OnlyAppends s (handleAmpcab cfg p t) :=
  h.orAbort fun _ => .ite ((h.emit _).send _ _) (h.emit _)

theorem handleCurname (h : OnlyAppends s t) (p : ParsedFrame) : OnlyAppends s (handleCurname cfg p t) :=
  h.orAbort fun name =>
    have notified := (h.of_eq (u := { t with currentPatch := { t.currentPatch with name := name } }) rfl rfl).emit
      (.notify (.patchNameChanged name))
    .ite (notified.send _ _) notified

theorem handleDump (h : OnlyAppends s t) (p : ParsedFrame) : OnlyAppends s (handleDump cfg p t) := by
  refine h.orAbort fun raw => ?_
  cases hw : cfg.patchDumpWalk raw with
  | ok => simpa only [hw] using h.emit _
  | patternMismatch => simpa only [hw] using (h.emit _).abort _

/-- R220: nothing is emitted. -/
theorem handleEnddump (h : OnlyAppends s t) (p : ParsedFrame) : OnlyAppends s (handleEnddump cfg p t) :=
  h.of_eq rfl rfl

theorem handleParam (h : OnlyAppends s t) (p : ParsedFrame) : OnlyAppends s (handleParam cfg p t) :=
  .ite (.send (h.orAbort fun _ => .ite (h.emit _) h) _ _) h

theorem handlePatchchg (h : OnlyAppends s t) (p : ParsedFrame) : OnlyAppends s (handlePatchchg cfg p t) :=
  h.orAbort fun _ => h.send_of_eq rfl rfl

theorem forwardBlock (h : OnlyAppends s t) (cmd : Byte) (p : ParsedFrame) : OnlyAppends s (forwardBlock cmd p t) :=
  h.emit _

/-- R252: an awaited acknowledgement sends a block before the phase is written. -/
theorem handleAck (h : OnlyAppends s t) (p : ParsedFrame) : OnlyAppends s (handleAck cfg p t) := by
  obtain ⟨-, -, -, -, e⟩ | ⟨-, -, e⟩ | ⟨x, -, e⟩ := handleAck_cases cfg p t
  · rw [e]; exact (h.send _ _).of_eq rfl rfl
  · rw [e]; exact h
  · rw [e]; exact h.abort x

/-- R212: whichever handler the command byte selects. -/
theorem handle (h : OnlyAppends s t) (p : ParsedFrame) : OnlyAppends s (handle cfg p t) := by
  unfold Machine.handle
  cases inCommand p.commandCode with
  | none => exact h.abort _
  | some k =>
    cases k with
    | enqack1 | enqack2 => exact h.enquiryAnswered p
    | status => exact h.handleStatus p
    | ampcab => exact h.handleAmpcab p
    | names => exact h.handleNames p
    | curname => exact h.handleCurname p
    | enddump => exact h.handleEnddump p
    | dump => exact h.handleDump p
    | param => exact h.handleParam p
    | patchchg => exact h.handlePatchchg p
    | ack => exact h.handleAck p
    | nak => exact h.abort _
    | ampcabReq | x0A | namesReq | curnameReq | expr | x28 | custom | x2E => exact h.forwardBlock _ p

/-- R210: a handler that only appends does so behind the front end. -/
theorem onFrame {cmd ch : Seven} {wire : Bytes} {handler : Cfg → ParsedFrame → State → State}
    (h : ∀ p, OnlyAppends s (handler cfg p s.feed)) : OnlyAppends s (onFrame cfg cmd handler ch wire s) :=
  .ite (h _) (.refl s)

/-! The events, from the state they arrive in. -/

theorem openPort (s : State) : OnlyAppends s (openPort cfg s) :=
  ((refl s).of_eq (u := { s with portOpen := true }) rfl rfl).fullResync

theorem closePort (s : State) : OnlyAppends s (closePort s) :=
  ⟨⟨_, (noticeDisconnect_outputs s).symm⟩, noticeDisconnect_pending s⟩

theorem rx (m : Bytes) (s : State) : OnlyAppends s (rx cfg m s) := by
  obtain ⟨-, e⟩ | ⟨-, -, e⟩ | ⟨-, -, -, e⟩ | ⟨x, -, -, -, e⟩ | ⟨-, -, -, -, -, e⟩ | ⟨p, -, -, -, -, e⟩ := rx_cases cfg m s
  case inl => rw [e]; exact refl s
  case inr.inr.inl => rw [e]; exact (feed s).emit _
  case inr.inr.inr.inr.inr => rw [e]; exact (feed s).handle p
  all_goals rw [e]; exact (refl s).emit _

theorem wdTick (s : State) : OnlyAppends s (wdTick cfg s) :=
  .ite (.ite (refl s).fullResync ((refl s).send_of_eq rfl rfl)) (refl s)

theorem uploadStart (b1 b2 b3 b4 b5 b6 b7 b8 : HostBlock) (s : State) :
    OnlyAppends s (uploadStart cfg b1 b2 b3 b4 b5 b6 b7 b8 s) := by
  obtain ⟨-, -, e⟩ | e := uploadStart_cases cfg b1 b2 b3 b4 b5 b6 b7 b8 s
  · have latched : OnlyAppends s { s with uploadBlocks :=
        ⟨latch b1, latch b2, latch b3, latch b4, latch b5, latch b6, latch b7, latch b8⟩ } := (refl s).of_eq rfl rfl
    rw [e]; exact (latched.send _ _).of_eq rfl rfl
  · rw [e]; exact (refl s).emit _

end OnlyAppends

/-- R72: every instruction answers a next state, in which it has only appended to the outputs. -/
theorem exec_onlyAppends (i : Instr) (s : State) : ∃ t : State, exec i s = .next t ∧ OnlyAppends s t := by
  have next : ∀ {t : State}, OnlyAppends s t → ∃ t' : State, (.next t : Outcome) = .next t' ∧ OnlyAppends s t' :=
    fun h => ⟨_, rfl, h⟩
  have self := OnlyAppends.refl s
  have fed := OnlyAppends.feed s
  cases i with
  | fullResync => exact next self.fullResync
  | reset => exact next (self.of_eq rfl rfl)
  | portOpen => exact next (.openPort s)
  | portClose => exact next (.closePort s)
  | hostResync => exact next (.ite self.fullResync (self.emit _))
  | hostSend cmd raw => exact next (.ite (self.send _ _) (self.emit _))
  | abort x => exact next (self.abort x)
  | wdTick => exact next (.wdTick s)
  | uploadStart b1 b2 b3 b4 b5 b6 b7 b8 => exact next (.uploadStart b1 b2 b3 b4 b5 b6 b7 b8 s)
  | rx m => exact next (.rx m s)
  | rxPassthru m => exact next (.ite (fed.emit _) self)
  | rxEnqack1 | rxEnqack2 => exact next (.onFrame fed.enquiryAnswered)
  | rxStatus => exact next (.onFrame fed.handleStatus)
  | rxAmpcab => exact next (.onFrame fed.handleAmpcab)
  | rxNames => exact next (.onFrame fed.handleNames)
  | rxCurname => exact next (.onFrame fed.handleCurname)
  | rxEnddump => exact next (.onFrame fed.handleEnddump)
  | rxDump => exact next (.onFrame fed.handleDump)
  | rxParam => exact next (.onFrame fed.handleParam)
  | rxPatchchg => exact next (.onFrame fed.handlePatchchg)
  | rxAck => exact next (.onFrame fed.handleAck)
  | rxNak | rxUnrec => exact next (.onFrame fun _ => fed.abort _)
  | rxAmpcabReq | rxX0A | rxNamesReq | rxCurnameReq | rxExpr | rxX28 | rxCustom | rxX2E =>
    exact next (.onFrame (fed.forwardBlock _))
  | txUpload block => exact next (.ite (self.send _ _) self)
  | txEnquiry => exact next (self.emit _)
  | send | txStatusReq | txNamesReq | txAmpcabReq | txCurnameReq | txKeepalive | txAck | txHost => exact next (self.send _ _)
  | varintV1 | varintV2 | varintV3 | varintV4 | varintIllegal0 | varintIllegalN | packgroup | varintEnc | varintDec | pack | unpack
  | cksum | frameBuild | frameBuildP | frameParse | frameUnpack | rawOf => exact next (self.of_eq rfl rfl)

theorem onlyAppends_of_exec {i : Instr} {s t : State} (h : exec i s = .next t) : OnlyAppends s t := by
  obtain ⟨t', ht', appends⟩ := exec_onlyAppends i s
  cases ht'.symm.trans h
  exact appends

/-- Settles O51: a step with an empty queue changes nothing, and any other takes the head and runs an instruction, which only appends. -/
theorem stepsOnlyAppendToTheOutputs : Obligations.StepsOnlyAppendToTheOutputs := by
  intro s t hstep
  obtain ⟨hempty, e⟩ | ⟨item, rest, i, hqueue, -, e⟩ | ⟨-, -, _, -, -, e⟩ := step_cases s
  · cases e.symm.trans hstep
    exact ⟨⟨[], by simp⟩, by simp [hempty]⟩
  · obtain ⟨⟨emitted, happended⟩, hpending⟩ := onlyAppends_of_exec (e.symm.trans hstep)
    exact ⟨⟨emitted, happended.symm⟩, by simp [hpending, hqueue]⟩
  · cases e.symm.trans hstep

end Sys2Proof.Machine
end

section
/-! PROOFS. The family of spec/30_encoding.md, and the lemmas about the codec it rests on: a varint's bytes, PACK and UNPACK one group at a time
(`drop_pack`, `unpack_pack`), FRAME.PARSE of a built frame (`frameParse_frameBytes`), the block's own messages as bytes (`send_gnxf`), and the
operands of two payload layouts. -/

namespace Sys2Proof.Machine

/-! Big-endian numbers (R64, R100). -/

theorem accumulate_append (value : Nat) (xs ys : Bytes) :
    accumulate value (xs ++ ys) = accumulate (accumulate value xs) ys := by
  induction xs generalizing value with
  | nil => rfl
  | cons x xs ih => exact ih _

@[simp] theorem length_bigEndian (n v : Nat) : (bigEndian n v).length = n := by
  induction n generalizing v with
  | zero => rfl
  | succ n ih => simp [bigEndian, ih]

theorem accumulate_bigEndian {n v : Nat} (h : v < 256 ^ n) : accumulate 0 (bigEndian n v) = v := by
  induction n generalizing v with
  | zero => simp_all [bigEndian, accumulate]
  | succ n ih =>
    have hdiv : v / 256 < 256 ^ n := Nat.div_lt_of_lt_mul (by rwa [Nat.pow_succ, Nat.mul_comm] at h)
    rw [bigEndian, accumulate_append, ih hdiv]
    simp only [accumulate, BitVec.toNat_ofNat]
    omega

/-- The low bits of a number behind those above them. -/
theorem ofNat_append_ofNat (m n v : Nat) :
    BitVec.ofNat m (v / 2 ^ n) ++ BitVec.ofNat n v = BitVec.ofNat (m + n) v := by
  apply BitVec.eq_of_toNat_eq
  have hlow : (BitVec.ofNat n v).toNat < 2 ^ n := BitVec.isLt _
  rw [BitVec.toNat_append, ← Nat.shiftLeft_add_eq_or_of_lt hlow]
  simp only [BitVec.toNat_ofNat, Nat.shiftLeft_eq, Nat.pow_add]
  rw [Nat.mul_comm (2 ^ m), Nat.mod_mul, Nat.mul_comm, Nat.add_comm]

/-! Marker bytes (R99, R108). -/

theorem toNat_varintMarker (n : BitVec 7) : (varintMarker n).toNat = 0x80 + n.toNat := by
  have hn : n.toNat < 2 ^ 7 := n.isLt
  rw [varintMarker, wide, BitVec.toNat_or, BitVec.toNat_setWidth_of_le (by decide)]
  exact (Nat.two_pow_add_eq_or_of_lt hn 1).symm

theorem ofNat_eq_varintMarker (n : BitVec 7) : BitVec.ofNat 8 (0x80 + n.toNat) = varintMarker n := by
  rw [← toNat_varintMarker, BitVec.ofNat_toNat, BitVec.setWidth_eq]

@[simp] theorem is7_varintMarker (n : BitVec 7) : is7 (varintMarker n) = false := by
  have h : ¬ is7 (varintMarker n) = true := by rw [is7_iff, toNat_varintMarker]; omega
  simpa using h

@[simp] theorem low7_varintMarker (n : BitVec 7) : low7 (varintMarker n) = n := by
  apply BitVec.eq_of_toNat_eq
  rw [low7, BitVec.toNat_setWidth, toNat_varintMarker]
  omega

theorem varintForm_succ {n : Nat} (h : n + 1 < 0x80) (v : Nat) :
    varintForm (n + 1) v = varintMarker (BitVec.ofNat 7 (n + 1)) :: bigEndian (n + 1) v := by
  rw [varintForm, ← ofNat_eq_varintMarker, BitVec.toNat_ofNat, Nat.mod_eq_of_lt h]

/-! VARINT.DEC on the bytes of one row (R99, R108, R132). -/

theorem varintDec_single {b : Byte} (h : is7 b = true) : varintDec [b] 0 = .ok (1, b.toNat) := by
  simp [varintDec, byteAt, h]

theorem varintDec_illegal {n : BitVec 7} (h : n.toNat = 0 ∨ 3 < n.toNat) :
    varintDec [varintMarker n] 0 = .error (.varintMalformed 0 (varintMarker n)) := by
  simp only [varintDec, byteAt, List.getD_cons_zero, is7_varintMarker, low7_varintMarker, gt_iff_lt, h]
  rfl

theorem varintDec_varintForm {n v : Nat} (hpos : 1 ≤ n) (hle : n ≤ 3) (hv : v < 256 ^ n) :
    varintDec (varintForm n v) 0 = .ok (n + 1, v) := by
  obtain ⟨k, rfl⟩ : ∃ k, n = k + 1 := ⟨n - 1, by omega⟩
  rw [varintForm_succ (by omega)]
  have hcount : (BitVec.ofNat 7 (k + 1)).toNat = k + 1 := by rw [BitVec.toNat_ofNat]; omega
  have hlegal : ¬ (k + 1 = 0 ∨ k + 1 > 3) := by omega
  simp only [varintDec, byteAt, slice, List.length_cons, length_bigEndian, List.getD_cons_zero, is7_varintMarker,
    low7_varintMarker, hcount, hlegal]
  have htake : (bigEndian (k + 1) v).take (k + 1) = bigEndian (k + 1) v := List.take_of_length_le (by simp)
  simp [htake, accumulate_bigEndian hv, Nat.add_comm]

/-- VARINT.V1 is the one form without a marker. -/
theorem varintForm_zero (v : BitVec 7) : varintForm 0 v.toNat = [wide v] :=
  congrArg (fun b => [b]) (BitVec.ofNat_toNat ..)

theorem varintDec_varintForm_zero (v : BitVec 7) : varintDec (varintForm 0 v.toNat) 0 = .ok (1, v.toNat) := by
  rw [varintForm_zero, varintDec_single (is7_wide v), wide, BitVec.toNat_setWidth_of_le (by decide)]

/-- Settles O5: a row's read of its own bytes is that of a form with 1 to 3 value bytes, of a single byte, or of an illegal marker. -/
theorem varintRowsReadTheirOwnBytes : Obligations.VarintRowsReadTheirOwnBytes := by
  have row {bs : Bytes} {r : Except ErrorCode (Nat × Nat)} (h : varintDec bs 0 = r) (s : State) :
      (.next (s.give (cursorResult (varintDec bs 0))) : Outcome) = .next { s with returned := some (cursorResult r) } := by
    rw [h]; rfl
  refine ⟨fun v => row (varintDec_varintForm_zero v), fun v => row (varintDec_varintForm (by decide) (by decide) v.isLt),
    fun v => row (varintDec_varintForm (by decide) (by decide) v.isLt),
    fun v => row (varintDec_varintForm (by decide) (by decide) v.isLt), row (varintDec_illegal (n := 0) (.inl rfl)),
    fun n s hn => ?_⟩
  rw [ofNat_eq_varintMarker]
  exact row (varintDec_illegal (.inr hn)) s

/-! The decoder on the bytes of one varint row (R99, R101, R108). -/

theorem decodeVarint_varintV1 (v : BitVec 7) : decodeVarint (varintForm 0 v.toNat) = .varintV1 v := by
  simp [varintForm_zero, decodeVarint]

theorem decodeVarint_varintV2 (v : BitVec 8) : decodeVarint (varintForm 1 v.toNat) = .varintV2 v := by
  have hread (b : Byte) : decodeVarint [0x81, b] = .varintV2 b := rfl
  have hform : varintForm 1 v.toNat = [0x81, BitVec.ofNat 8 v.toNat] := rfl
  rw [hform, hread, BitVec.ofNat_toNat, BitVec.setWidth_eq]

theorem decodeVarint_varintV3 (v : BitVec 16) : decodeVarint (varintForm 2 v.toNat) = .varintV3 v := by
  have hread (b1 b0 : Byte) : decodeVarint [0x82, b1, b0] = .varintV3 (b1 ++ b0) := rfl
  have hform : varintForm 2 v.toNat = [0x82, BitVec.ofNat 8 (v.toNat / 2 ^ 8), BitVec.ofNat 8 v.toNat] := rfl
  rw [hform, hread, ofNat_append_ofNat, BitVec.ofNat_toNat, BitVec.setWidth_eq]

theorem decodeVarint_varintV4 (v : BitVec 24) : decodeVarint (varintForm 3 v.toNat) = .varintV4 v := by
  have hread (b2 b1 b0 : Byte) : decodeVarint [0x83, b2, b1, b0] = .varintV4 (b2 ++ b1 ++ b0) := rfl
  have hform : varintForm 3 v.toNat =
      [0x83, BitVec.ofNat 8 (v.toNat / 2 ^ 8 / 2 ^ 8), BitVec.ofNat 8 (v.toNat / 2 ^ 8), BitVec.ofNat 8 v.toNat] := rfl
  rw [hform, hread, ofNat_append_ofNat, ofNat_append_ofNat, BitVec.ofNat_toNat, BitVec.setWidth_eq]

theorem decodeVarint_varintIllegalN {n : BitVec 7} (h : 4 ≤ n.toNat) : decodeVarint [varintMarker n] = .varintIllegalN n := by
  obtain ⟨k, hk⟩ : ∃ k, n.toNat = k + 4 := ⟨n.toNat - 4, by omega⟩
  simp [decodeVarint, hk]

/-! The flag bits of a header (R95). -/

/-- A raw byte: a data byte with its flag as bit 7 (R152). -/
def withFlag (flag : Bool) (b : Byte) : Byte :=
  if flag then b ||| 0x80 else b

theorem or_flagBit (h b : Byte) (n : Nat) : b ||| (((h >>> n) &&& 1) <<< 7) = withFlag (h.getLsbD n) b := by
  have hbit : (h >>> n) &&& 1 = BitVec.setWidth 8 (BitVec.ofBool (h.getLsbD n)) := by
    rw [show (1 : Byte) = 1#8 from rfl, BitVec.and_one_eq_setWidth_ofBool_getLsbD, BitVec.getLsbD_ushiftRight, Nat.add_zero]
  rw [hbit, withFlag]
  cases h.getLsbD n
  · exact BitVec.or_zero
  · rfl

theorem getLsbD_low7Mask (n : Nat) : (0x7F : Byte).getLsbD n = decide (n < 7) := by
  by_cases h : n < 8
  · interval_cases n <;> rfl
  · rw [BitVec.getLsbD_of_ge _ _ (by omega), eq_comm, decide_eq_false_iff_not]
    omega

theorem getLsbD_bit7 {n : Nat} (hn : n < 8) : (0x80 : Byte).getLsbD n = decide (n = 7) := by
  interval_cases n <;> rfl

/-- R153: PACK's data byte and flag make the raw byte. -/
theorem withFlag_msb (b : Byte) : withFlag b.msb (b &&& 0x7F) = b := by
  apply BitVec.eq_of_getLsbD_eq
  intro n hn
  have hmsb : b.msb = b.getLsbD 7 := BitVec.msb_eq_getLsbD_last b
  have hflag : (withFlag b.msb (b &&& 0x7F)).getLsbD n = (b.getLsbD n && decide (n < 7) || b.msb && decide (n = 7)) := by
    cases b.msb <;> simp only [withFlag, if_true, Bool.false_eq_true, if_false, BitVec.getLsbD_or, BitVec.getLsbD_and,
      getLsbD_low7Mask, getLsbD_bit7 hn, Bool.true_and, Bool.false_and, Bool.or_false]
  rw [hflag, hmsb]
  obtain rfl | h7 := Nat.eq_or_lt_of_le (Nat.le_of_lt_succ hn)
  · simp
  · simp [h7, Nat.ne_of_lt h7]

/-- R95: bits `6 - k` to 0 of the header of a group of `k`. -/
theorem unusedFlags_eq_zero_iff (k : Nat) (h : Byte) :
    unusedFlags .left k h = 0 ↔ ∀ n, n < 7 - k → h.getLsbD n = false := by
  have hbit (n : Nat) : (unusedFlags .left k h).getLsbD n = (h.getLsbD n && decide (n < 7 - k)) := by
    rw [unusedFlags, BitVec.getLsbD_and, BitVec.getLsbD_ushiftRight, getLsbD_low7Mask]
    congr 2
    exact propext (by omega)
  constructor
  · intro h0 n hn
    simpa [h0, hn] using (hbit n).symm
  · intro hz
    apply BitVec.eq_of_getLsbD_eq
    intro n _
    rw [hbit]
    by_cases hn : n < 7 - k <;> simp [hn, hz]

/-- R150: what raw byte `j` puts into its header. -/
theorem getLsbD_flag (b : Byte) {i j : Nat} (hi : i < 7) (hj : j < 7) :
    ((b >>> 7) <<< (6 - j)).getLsbD (6 - i) = (decide (i = j) && b.msb) := by
  rw [BitVec.getLsbD_shiftLeft, BitVec.getLsbD_ushiftRight]
  obtain hlt | rfl | hgt := Nat.lt_trichotomy i j
  · rw [BitVec.getLsbD_of_ge b _ (by omega)]
    simp [Nat.ne_of_lt hlt]
  · rw [Nat.sub_self, BitVec.msb_eq_getLsbD_last]
    have hlane : 6 - i < 8 := by omega
    simp [hlane]
  · have hbelow : 6 - i < 6 - j := by omega
    simp [hbelow, Nat.ne_of_gt hgt]

/-- R150: bit `6 - i` of a header is bit 7 of raw byte `i`, and 0 where the group has no byte `i`. -/
theorem getLsbD_headerFrom (k : Nat) (d : Bytes) {i j : Nat} (hi : i < 7) (hj : j + d.length ≤ 7) :
    (headerFrom .left k j d).getLsbD (6 - i) = (decide (j ≤ i) && (d.getD (i - j) 0).msb) := by
  induction d generalizing j with
  | nil => simp [headerFrom]
  | cons b bs ih =>
    simp only [List.length_cons] at hj
    rw [headerFrom, BitVec.getLsbD_or, ih (by omega), flagBit, getLsbD_flag b hi (by omega)]
    obtain hlt | rfl | hgt := Nat.lt_trichotomy i j
    · have hnext : ¬ j + 1 ≤ i := by omega
      simp [Nat.ne_of_lt hlt, Nat.not_le_of_lt hlt, hnext]
    · simp
    · obtain ⟨m, rfl⟩ : ∃ m, i = j + 1 + m := ⟨i - (j + 1), by omega⟩
      have hother : j + 1 + m ≠ j := by omega
      have hindex : j + 1 + m - j = m + 1 := by omega
      simp [hother, hindex, Nat.le_of_lt hgt]

theorem getLsbD_header {d : Bytes} (hd : d.length ≤ 7) {i : Nat} (hi : i < 7) :
    (headerFrom .left d.length 0 d).getLsbD (6 - i) = (d.getD i 0).msb := by
  rw [getLsbD_headerFrom _ _ hi (by omega), decide_eq_true (Nat.zero_le i), Bool.true_and, Nat.sub_zero]

/-! UNPACK of one group (R153). -/

/-- R153: the raw bytes of a group of 7-bit data bytes. -/
theorem unpackBytes_left (k : Nat) (h : Byte) (i j : Nat) {d : Bytes} (hd : all7 d = true) :
    unpackBytes .left k h i j d = .ok (d.mapIdx fun n b => withFlag (h.getLsbD (6 - (j + n))) b) := by
  induction d generalizing j with
  | nil => rfl
  | cons b bs ih =>
    simp only [all7_cons, Bool.and_eq_true] at hd
    obtain ⟨hb, hbs⟩ := hd
    simp only [unpackBytes, hb, if_true, ih (j + 1) hbs, flagBit, or_flagBit, List.mapIdx_cons]
    simp [Nat.add_assoc, Nat.add_comm 1]

/-- R153: a group of 7-bit values fails only through a flag with no data byte. -/
theorem unpackGroup_left (i : Nat) {h : Byte} {d : Bytes} (hh : is7 h = true) (hne : d ≠ []) (hd : all7 d = true) :
    unpackGroup .left i h d =
      if unusedFlags .left d.length h ≠ 0 then .error (.packMalformed i)
      else .ok (d.mapIdx fun j b => withFlag (h.getLsbD (6 - j)) b) := by
  simp [unpackGroup, hh, hne, unpackBytes_left _ _ _ _ hd]

/-- R154 (1): the header PACK makes gives every lane its bit 7 back. -/
theorem mapIdx_withFlag_header {d : Bytes} (hd : d.length ≤ 7) :
    (d.map (· &&& 0x7F)).mapIdx (fun j b => withFlag ((headerFrom .left d.length 0 d).getLsbD (6 - j)) b) = d := by
  apply List.ext_getElem
  · simp
  · intro j h1 h2
    rw [List.getElem_mapIdx, List.getElem_map, getLsbD_header hd (by omega), List.getD_eq_getElem _ _ h2, withFlag_msb]

/-- R150: PACK sets no flag of an absent byte. -/
theorem unusedFlags_header {d : Bytes} (hd : d.length ≤ 7) :
    unusedFlags .left d.length (headerFrom .left d.length 0 d) = 0 := by
  rw [unusedFlags_eq_zero_iff]
  intro n hn
  obtain ⟨i, rfl, hi⟩ : ∃ i, n = 6 - i ∧ i < 7 := ⟨6 - n, by omega, by omega⟩
  rw [getLsbD_header hd hi, List.getD_eq_default _ _ (by omega)]
  rfl

/-- R154 (1), for one group. -/
theorem unpackGroup_packGroup (i : Nat) {d : Bytes} (hne : d ≠ []) (hd : d.length ≤ 7) :
    unpackGroup .left i (headerFrom .left d.length 0 d) (d.map (· &&& 0x7F)) = .ok d := by
  rw [unpackGroup_left i (is7_headerFrom ..) (by simpa using hne) (all7_mask d), List.length_map, unusedFlags_header hd,
    mapIdx_withFlag_header hd]
  rfl

/-! PACK, group by group (R150). -/

/-- Induction over the groups that PACK makes. -/
theorem group_induction {P : Bytes → Prop} (nil : P []) (group : ∀ d, d ≠ [] → P (d.drop 7) → P d) (d : Bytes) : P d :=
  if h : d = [] then h ▸ nil
  else group d h (group_induction nil group (d.drop 7))
termination_by d.length
decreasing_by
  have := List.length_pos_of_ne_nil h
  simp; omega

theorem length_packGroup (d : Bytes) : (packGroup .left d).length = d.length + 1 := by
  simp [packGroup]

/-- R151. -/
theorem length_pack (data : Bytes) : (pack cfg data).length = data.length + (data.length + 6) / 7 := by
  induction data using group_induction with
  | nil => rfl
  | group d hne ih =>
    have hpos := List.length_pos_of_ne_nil hne
    rw [pack_groups d hne, List.length_append, length_packGroup, ih, List.length_take, List.length_drop]
    omega

theorem drop_pack_group (data : Bytes) : (pack cfg data).drop 8 = pack cfg (data.drop 7) := by
  by_cases hne : data = []
  · simp [hne]
  · rw [pack_groups data hne]
    obtain hfull | hlast := Nat.le_total 7 data.length
    · exact List.drop_left' (by simp [length_packGroup, hfull])
    · rw [List.drop_eq_nil_of_le hlast, pack_nil, List.append_nil]
      exact List.drop_eq_nil_of_le (by simp [length_packGroup])

/-- R94: group `g` begins at index `8 * g`. -/
theorem drop_pack (g : Nat) (data : Bytes) : (pack cfg data).drop (8 * g) = pack cfg (data.drop (7 * g)) := by
  induction g with
  | zero => rfl
  | succ g ih => rw [Nat.mul_succ, ← List.drop_drop, ih, drop_pack_group, List.drop_drop, Nat.mul_succ]

/-- R150: the first group's header. -/
theorem pack_header {data : Bytes} (hne : data ≠ []) :
    (pack cfg data)[0]? = some (headerFrom .left (data.take 7).length 0 (data.take 7)) := by
  rw [pack_groups data hne]
  rfl

/-- A group is the last one, or has seven raw bytes. -/
theorem drop_eq_nil_or_length_take (data : Bytes) : data.drop 7 = [] ∨ (data.take 7).length = 7 := by
  obtain hfull | hlast := Nat.le_total 7 data.length
  · exact .inr (by simp [hfull])
  · exact .inl (List.drop_eq_nil_of_le hlast)

/-- R150: the first group's data bytes. -/
theorem pack_dataByte (data : Bytes) {j : Nat} (hj : j < 7) :
    (pack cfg data)[j + 1]? = data[j]?.map (· &&& 0x7F) := by
  by_cases hne : data = []
  · simp [hne]
  · rw [pack_groups data hne, packGroup, List.cons_append, List.getElem?_cons_succ]
    obtain hlast | hfull := drop_eq_nil_or_length_take data
    · simp [hlast, List.getElem?_take_of_lt hj]
    · rw [List.getElem?_append_left (by rw [List.length_map]; omega), List.getElem?_map, List.getElem?_take_of_lt hj]

/-- R153: UNPACK takes a group's data bytes off what PACK makes. -/
theorem packGroup_split (data : Bytes) :
    let rest := (data.take 7).map (· &&& 0x7F) ++ pack cfg (data.drop 7)
    rest.take 7 = (data.take 7).map (· &&& 0x7F) ∧ rest.drop 7 = pack cfg (data.drop 7) := by
  obtain hlast | hfull := drop_eq_nil_or_length_take data
  · simp [hlast]
  · exact ⟨List.take_left' (by simpa using hfull), List.drop_left' (by simpa using hfull)⟩

/-- R154 (1), from whatever index UNPACK counts. -/
theorem unpackGroups_pack (data : Bytes) {n : Nat} (i : Nat) (hn : (pack cfg data).length ≤ n) :
    unpackGroups cfg n i (pack cfg data) = .ok data := by
  induction data using group_induction generalizing n i with
  | nil => cases n <;> rfl
  | group d hne ih =>
    obtain ⟨htake, hdrop⟩ := packGroup_split d
    rw [pack_groups d hne, packGroup, List.cons_append] at hn ⊢
    obtain ⟨n, rfl⟩ : ∃ k, n = k + 1 := ⟨n - 1, by simp at hn; omega⟩
    have hrest : (pack cfg (d.drop 7)).length ≤ n := by simp at hn; omega
    rw [unpackGroups, cfg_group, cfg_partialAlign, htake, hdrop, unpackGroup_packGroup i (by simpa using hne) (by simp), ih _ hrest]
    simp

/-- R154 (1): UNPACK of what PACK makes. -/
theorem unpack_pack (data : Bytes) : unpack cfg (pack cfg data) = .ok data :=
  unpackGroups_pack data 0 (Nat.le_refl _)

/-! The rows PACKGROUP and PACK. -/

/-- R94, R153: UNPACK of a wire payload that is one group. -/
theorem unpack_oneGroup (h : Byte) {d : Bytes} (hd : d.length ≤ 7) : unpack cfg (h :: d) = unpackGroup .left 0 h d := by
  rw [unpack, List.length_cons, unpackGroups, cfg_group, cfg_partialAlign, List.take_of_length_le hd, List.drop_of_length_le hd]
  have hend (n i : Nat) : unpackGroups cfg n i [] = .ok [] := by cases n <;> rfl
  cases unpackGroup .left 0 h d <;> simp [hend]

theorem getLsbD_wide (b : Seven) (n : Nat) : (wide b).getLsbD n = b.getLsbD n := by
  rw [wide, BitVec.getLsbD_setWidth, Bool.and_eq_right_iff_imp, decide_eq_true_iff]
  intro hbit
  have := BitVec.lt_of_getLsbD hbit
  omega

/-- R95: the flag bits of absent bytes are the header's low bits. -/
theorem unusedFlags_wide_eq_zero_iff (k : Nat) (flags : BitVec 7) :
    unusedFlags .left k (wide flags) = 0 ↔ flags.toNat % 2 ^ (7 - k) = 0 := by
  rw [unusedFlags_eq_zero_iff]
  simp only [getLsbD_wide, ← BitVec.testBit_toNat flags]
  constructor
  · intro hzero
    apply Nat.eq_of_testBit_eq
    intro n
    by_cases hn : n < 7 - k <;> simp [Nat.testBit_mod_two_pow, hn, hzero]
  · intro hmod n hn
    simpa [Nat.testBit_mod_two_pow, hn] using congrArg (·.testBit n) hmod

/-- R153: PACKGROUP's read of its own bytes. -/
theorem unpack_packgroup (flags : BitVec 7) {data : List Seven} (hne : data ≠ []) (hle : data.length ≤ 7) :
    unpack cfg (wide flags :: data.map wide) =
      if flags.toNat % 2 ^ (7 - data.length) ≠ 0 then .error (.packMalformed 0)
      else .ok (data.mapIdx fun j b => withFlag (flags.getLsbD (6 - j)) (wide b)) := by
  have hwide : data.map wide ≠ [] := by simpa using hne
  have hlanes : (data.map wide).mapIdx (fun j b => withFlag (flags.getLsbD (6 - j)) b) =
      data.mapIdx fun j b => withFlag (flags.getLsbD (6 - j)) (wide b) :=
    List.ext_getElem (by simp) (by simp)
  rw [unpack_oneGroup _ (by simpa using hle), unpackGroup_left 0 (is7_wide flags) hwide (all7_map_wide data), List.length_map]
  simp only [ne_eq, unusedFlags_wide_eq_zero_iff, getLsbD_wide]
  rw [hlanes]

/-- Settles O6: PACKGROUP is UNPACK of one group. -/
theorem packgroupGivesEachLaneItsFlag : Obligations.PackgroupGivesEachLaneItsFlag := by
  intro flags data s hpos hle
  have hread := unpack_packgroup flags (List.ne_nil_of_length_pos hpos) hle
  change Host.Outcome.next (s.give (bytesResult (unpack cfg (wide flags :: data.map wide)))) = _
  rw [hread]
  split <;> rfl

/-- R94: byte `j` of group `g`. -/
theorem getElem?_pack (data : Bytes) (g j : Nat) : (pack cfg data)[8 * g + j]? = (pack cfg (data.drop (7 * g)))[j]? := by
  rw [← drop_pack, List.getElem?_drop]

theorem ne_nil_of_pack_getElem? {data : Bytes} {j : Nat} {b : Byte} (h : (pack cfg data)[j]? = some b) : data ≠ [] := by
  rintro rfl
  simp at h

/-- Settles O7: index `8 * g` of PACK's result begins what PACK makes of the bytes from `7 * g` on, so each clause is about a
first group. -/
theorem packLaysEveryByteInItsLane : Obligations.PackLaysEveryByteInItsLane := by
  intro raw s
  refine ⟨pack cfg raw, rfl, length_pack raw, fun i b hb => ?_, fun g h hh => ?_⟩
  · have hlane : i % 7 < 7 := Nat.mod_lt _ (by decide)
    have hgroup : (raw.drop (7 * (i / 7)))[i % 7]? = some b := by
      rw [List.getElem?_drop, Nat.div_add_mod, hb]
    have hne : raw.drop (7 * (i / 7)) ≠ [] := by rintro hnil; simp [hnil] at hgroup
    refine ⟨?_, _, (getElem?_pack raw (i / 7) 0).trans (pack_header hne), ?_⟩
    · rw [Nat.add_assoc, getElem?_pack, Nat.add_comm 1, pack_dataByte _ hlane, hgroup]
      rfl
    · rw [getLsbD_header (by simp) hlane, List.getD_eq_getElem?_getD, List.getElem?_take_of_lt hlane, hgroup]
      rfl
  · have hfirst : (pack cfg (raw.drop (7 * g)))[0]? = some h := (getElem?_pack raw g 0).symm.trans hh
    obtain rfl : headerFrom .left _ 0 ((raw.drop (7 * g)).take 7) = h :=
      Option.some.inj ((pack_header (ne_nil_of_pack_getElem? hfirst)).symm.trans hfirst)
    refine ⟨by simpa [is7] using is7_headerFrom _ 0 ((raw.drop (7 * g)).take 7), fun j hj habsent => ?_⟩
    rw [getLsbD_header (by simp) hj, List.getD_eq_default _ _ (by simp; omega)]
    rfl

/-! Frames: FRAME.PARSE of what FRAME.BUILD makes (R90, R177). -/

theorem all7_frameBody (ch cmd : Seven) {wire : Bytes} (h : all7 wire = true) :
    all7 (frameBody cfg (wide ch) (wide cmd) wire) = true := by
  simp only [frameBody, List.cons_append, List.nil_append, all7_cons, is7_wide, h]
  rfl

/-- R175: a message that passes FRAME.PARSE's tests. -/
theorem frameParse_accepts {m : Bytes} (hlen : 9 ≤ m.length) (hfirst : byteAt m 0 = 0xF0)
    (hlast : byteAt m (m.length - 1) = 0xF7) (hinner : all7 (slice m 1 (m.length - 1)) = true)
    (hsum : requiredChecksum cfg m = byteAt m (m.length - 2)) :
    frameParse cfg m = .ok
      { mnfrId := ⟨byteAt m 1, byteAt m 2, byteAt m 3⟩
        midiChannel := byteAt m 4
        deviceId := byteAt m 5
        commandCode := byteAt m 6
        wire := slice m 7 (m.length - 2)
        checksum := requiredChecksum cfg m } := by
  simp [frameParse, Nat.not_lt_of_le hlen, hfirst, hlast, hinner, hsum]

section
variable (ch cmd : Byte) (wire : Bytes)

theorem byteAt_frameBytes_head {i : Nat} (hi : i < 7) :
    byteAt (frameBytes cfg ch cmd wire) i = byteAt [0xF0, 0x00, 0x00, 0x10, ch, 0x56, cmd] i := by
  interval_cases i <;> rfl

theorem byteAt_frameBytes_checksum : byteAt (frameBytes cfg ch cmd wire) (wire.length + 7) = cksum (frameBody cfg ch cmd wire) := by
  simp [byteAt, frameBytes_cfg]

theorem byteAt_frameBytes_last : byteAt (frameBytes cfg ch cmd wire) (wire.length + 8) = 0xF7 := by
  simp [byteAt, frameBytes_cfg]

theorem slice_frameBytes_inner : slice (frameBytes cfg ch cmd wire) 1 (wire.length + 8) =
    frameBody cfg ch cmd wire ++ [cksum (frameBody cfg ch cmd wire)] := by
  simp [slice, frameBytes_cfg, List.take_append]

theorem slice_frameBytes_wire : slice (frameBytes cfg ch cmd wire) 7 (wire.length + 7) = wire := by
  simp [slice, frameBytes_cfg, frameBody]

/-- R92: the checksum a built frame must carry. -/
theorem requiredChecksum_frameBytes :
    requiredChecksum cfg (frameBytes cfg ch cmd wire) = cksum (frameBody cfg ch cmd wire) := by
  simp [requiredChecksum, slice, frameBytes_cfg]

end

/-- R177 (1): FRAME.PARSE reads back the frame of a 7-bit channel, command and wire payload. -/
theorem frameParse_frameBytes (ch cmd : Seven) {wire : Bytes} (h : all7 wire = true) :
    frameParse cfg (frameBytes cfg (wide ch) (wide cmd) wire) = .ok (parsedOf cfg cmd ch wire) := by
  have hlast : (frameBytes cfg (wide ch) (wide cmd) wire).length - 1 = wire.length + 8 := by simp
  have hbefore : (frameBytes cfg (wide ch) (wide cmd) wire).length - 2 = wire.length + 7 := by simp
  have hbody := all7_frameBody ch cmd h
  rw [frameParse_accepts (by simp) rfl]
  · rw [hbefore, slice_frameBytes_wire]
    simp only [byteAt_frameBytes_head, Nat.reduceLT]
    rfl
  · rw [hlast, byteAt_frameBytes_last]
  · rw [hlast, slice_frameBytes_inner, all7_append, all7_cons, hbody, is7_cksum _ hbody]
    rfl
  · rw [hbefore, byteAt_frameBytes_checksum, requiredChecksum_frameBytes]

/-! The decoder on what the encoder writes. -/

theorem forThisDevice_parsedOf (cmd ch : Seven) (wire : Bytes) : forThisDevice cfg (parsedOf cfg cmd ch wire) = true := by
  simp [forThisDevice, parsedOf]

/-- R102, R212: a received frame decodes to the row of its command. -/
theorem decodeInbound_frameBytes (cmd ch : Seven) {wire : Bytes} (h : wireOk wire = true) :
    decodeInbound (frameBytes cfg (wide ch) (wide cmd) wire) = inboundRow cmd ch wire := by
  have hstart : (frameBytes cfg (wide ch) (wide cmd) wire).head? = some 0xF0 := by rw [frameBytes_cfg]; rfl
  rw [decodeInbound_accepted hstart (frameParse_frameBytes ch cmd h) (forThisDevice_parsedOf cmd ch wire)]
  simp only [parsedOf_commandCode, parsedOf_midiChannel, parsedOf_wire, low7_wide]

theorem decodeInbound_passthru {m : Bytes} (h : passthruOk m = true) : decodeInbound m = .rxPassthru m := by
  cases m with
  | nil => cases h
  | cons b bs => exact if_pos (by simpa [passthruOk] using h)

theorem inboundRow_unrec {cmd : Seven} (h : (inCommand (wide cmd)).isNone = true) (ch : Seven) (wire : Bytes) :
    inboundRow cmd ch wire = .rxUnrec cmd ch wire := by
  rw [inboundRow, Option.isNone_iff_eq_none.mp h]

theorem decode_inboundItem (k : InCmd) (ch : Seven) {wire : Bytes} (h : wireOk wire = true) :
    decode (inboundItem k ch wire) = .ok (inboundRow (inCode k) ch wire) :=
  congrArg Except.ok (decodeInbound_frameBytes (inCode k) ch h)

/-- R103: a sent frame decodes to the block's own message of its command and payload, if there is one. -/
theorem decode_outboundItem (ch cmd : Seven) (raw : Bytes) :
    decode (outboundItem ch cmd raw) = .ok ((ownMessage cfg (wide cmd) raw).getD (.txHost cmd raw)) := by
  change decodeOutbound (frameBytes cfg (wide ch) (wide cmd) (pack cfg raw)) = _
  rw [decodeOutbound, frameParse_frameBytes ch cmd (all7_pack raw)]
  simp only [forThisDevice_parsedOf, if_true, parsedOf_wire, unpack_pack, parsedOf_commandCode, low7_wide]
  cases ownMessage cfg (wide cmd) raw <;> rfl

theorem decode_outboundItem_own (ch : Seven) {cmd : Seven} {raw : Bytes} {i : Instr}
    (h : ownMessage cfg (wide cmd) raw = some i) :
    decode (outboundItem ch cmd raw) = .ok i := by
  rw [decode_outboundItem, h]; rfl

/-- R104: the enquiry is no frame of the device, and so it is compared whole. -/
theorem decodeOutbound_enquiry (h : enquiryOk cfg.enquiryFrame = true) :
    decodeOutbound cfg.enquiryFrame = .ok .txEnquiry := by
  unfold enquiryOk at h
  unfold decodeOutbound
  cases hp : frameParse cfg cfg.enquiryFrame with
  | error x => simp only [if_true]
  | ok p =>
    have hother : forThisDevice cfg p = false := by simpa [hp] using h
    simp only [hother, Bool.false_eq_true, if_false, if_true]

theorem decodeGroup_group {flags : BitVec 7} {data : List Seven} (h : groupOk flags data = true) :
    decodeGroup (wide flags :: data.map wide) = .packgroup flags data := by
  have hdata : (data.map wide).map low7 = data := by simp [Function.comp_def]
  simp only [decodeGroup, all7_cons, is7_wide, all7_map_wide, low7_wide, hdata, h, Bool.and_self, if_true]

/-- Settles O59: the rows of bits go through the decoder of their item, each with its own lemma; the rows that are lines are read field by
field. -/
theorem decodeInvertsEncode : Obligations.DecodeInvertsEncode := by
  intro ch i hi
  cases i with
  | varintV1 v => exact congrArg Except.ok (decodeVarint_varintV1 v)
  | varintV2 v => exact congrArg Except.ok (decodeVarint_varintV2 v)
  | varintV3 v => exact congrArg Except.ok (decodeVarint_varintV3 v)
  | varintV4 v => exact congrArg Except.ok (decodeVarint_varintV4 v)
  | varintIllegalN n => exact congrArg Except.ok (decodeVarint_varintIllegalN (of_decide_eq_true hi))
  | packgroup flags data => exact congrArg Except.ok (decodeGroup_group hi)
  | varintEnc value => exact (if_pos value.isLt).trans (by rw [BitVec.ofNat_toNat, BitVec.setWidth_eq])
  | send cmd raw => exact (if_pos (is7_wide cmd)).trans (by rw [low7_wide])
  | txUpload block => exact dif_pos ⟨Nat.le_add_left .., block.isLt⟩
  | rxPassthru m => exact congrArg Except.ok (decodeInbound_passthru hi)
  | rxEnqack1 | rxEnqack2 | rxStatus | rxAmpcabReq | rxAmpcab | rxX0A | rxNamesReq | rxNames | rxCurnameReq | rxCurname | rxEnddump
  | rxDump | rxExpr | rxX28 | rxCustom | rxParam | rxPatchchg | rxX2E | rxAck | rxNak => exact decode_inboundItem _ _ hi
  | rxUnrec cmd ch' wire =>
    obtain ⟨hcmd, hwire⟩ := Bool.and_eq_true_iff.mp hi
    exact congrArg Except.ok ((decodeInbound_frameBytes cmd ch' hwire).trans (inboundRow_unrec hcmd ch' wire))
  | txNamesReq bank => cases bank <;> exact decode_outboundItem_own ch rfl
  | txStatusReq | txAmpcabReq | txCurnameReq | txKeepalive | txAck => exact decode_outboundItem_own ch rfl
  | txHost cmd raw =>
    have hown : ownMessage cfg (wide cmd) raw = none := Option.isNone_iff_eq_none.mp hi
    exact (decode_outboundItem ch cmd raw).trans (by rw [hown]; rfl)
  | txEnquiry => exact decodeOutbound_enquiry hi
  | varintIllegal0 | varintDec | pack | unpack | cksum | frameBuild | frameBuildP | frameParse | frameUnpack | fullResync | rawOf | abort
  | reset | portOpen | portClose | hostResync | hostSend | uploadStart | wdTick | rx => rfl

/-- Settles O58: each word is the encoding of its instruction, on channel 0. -/
theorem sampleWordsDecodeAsWritten : Obligations.SampleWordsDecodeAsWritten := by
  have sample (i : Instr) (h : WellFormed i) : decode (encode 0 i) = .ok i := decodeInvertsEncode 0 i h
  exact ⟨sample (.varintV1 0x0A) rfl, sample (.varintV2 0xC8) rfl, sample (.varintV3 0x07D0) rfl, sample (.varintV4 0x010000) rfl,
    sample .varintIllegal0 rfl, sample (.varintIllegalN 0x04) rfl, sample (.packgroup 0x50 [0x02, 0x07, 0x50]) rfl,
    sample (.rxEnqack2 0x03 []) rfl, sample (.rxUnrec 0x55 0x00 []) rfl, sample (.rxPassthru [0xC0, 0x05]) rfl,
    sample .txStatusReq rfl, sample (.varintEnc 2000) rfl⟩

/-! The block's own messages as their bytes (R103, R201). -/

/-- R201: what Send does with its frame. -/
def State.sendOrLog (s : State) (m : Bytes) : State :=
  s.emit (if s.portOpen then .tx m else .log .portNotOpen)

/-- R92: `0x46` is the exclusive or of the fixed ids, and the channel is one of the bytes the checksum runs over. -/
theorem frameBytes_eq_gnxf (ch : Seven) (cmd : Byte) (wire : Bytes) :
    frameBytes cfg (wide ch) cmd wire = gnxf ch (cmd :: wire) (0x46 ^^^ cksum (cmd :: wire)) := by
  have hsum : cksum (frameBody cfg (wide ch) cmd wire) = 0x46 ^^^ cksum (cmd :: wire) ^^^ wide ch := by
    simp only [frameBody, List.cons_append, List.nil_append, cksum_cons, cfg_mnfrId, cfg_deviceId]
    have hids : (0x46 : Byte) = 0x00 ^^^ (0x00 ^^^ (0x10 ^^^ 0x56)) := rfl
    rw [hids]
    ac_rfl
  rw [frameBytes_cfg, hsum]
  rfl

theorem send_eq_sendOrLog (cmd : Seven) (raw : Bytes) (s : State) :
    send cfg cmd raw s = s.sendOrLog (gnxfOf s.channel cmd raw) := by
  rw [send_eq, State.sendOrLog, gnxfOf_eq]

theorem send_gnxf {cmd : Seven} {raw fromCommand : Bytes} {ck : Byte} (hbytes : wide cmd :: pack cfg raw = fromCommand)
    (hck : 0x46 ^^^ cksum fromCommand = ck) (s : State) :
    send cfg cmd raw s = s.sendOrLog (gnxf s.channel fromCommand ck) := by
  subst hbytes hck
  rw [send_eq_sendOrLog, gnxfOf_eq, frameBytes_eq_gnxf]

theorem txStatusReq_eq (s : State) : txStatusReq cfg s = s.sendOrLog (gnxf s.channel [0x05, 0x00, 0x01] 0x42) :=
  send_gnxf rfl rfl s

theorem txNamesReq_factory_eq (s : State) : txNamesReq cfg .factory s = s.sendOrLog (gnxf s.channel [0x12, 0x00, 0x00] 0x54) :=
  send_gnxf rfl rfl s

theorem txNamesReq_user_eq (s : State) : txNamesReq cfg .user s = s.sendOrLog (gnxf s.channel [0x12, 0x00, 0x01] 0x55) :=
  send_gnxf rfl rfl s

theorem txAmpcabReq_eq (s : State) : txAmpcabReq cfg s = s.sendOrLog (gnxf s.channel [0x07] 0x41) :=
  send_gnxf rfl rfl s

theorem txCurnameReq_eq (s : State) : txCurnameReq cfg s = s.sendOrLog (gnxf s.channel [0x20] 0x66) :=
  send_gnxf rfl rfl s

theorem txKeepalive_eq (s : State) : txKeepalive cfg s = s.sendOrLog (gnxf s.channel [0x76] 0x30) :=
  send_gnxf rfl rfl s

theorem txAck_eq (s : State) : txAck cfg s = s.sendOrLog (gnxf s.channel [0x7E, 0x00, 0x21] 0x19) :=
  send_gnxf rfl rfl s

theorem State.sendOrLog_open {s : State} (h : s.portOpen = true) (m : Bytes) : s.sendOrLog m = s.emit (.tx m) := by
  rw [State.sendOrLog, if_pos h]

/-- Settles O47: each row but the enquiry's is the Send of its frame, and TX.UPLOAD's only while an upload runs. -/
theorem ownMessagesLeaveByteForByte : Obligations.OwnMessagesLeaveByteForByte := by
  intro s
  have next {t u : State} (h : t = u) : (.next t : Outcome) = .next u := congrArg _ h
  refine ⟨next (txStatusReq_eq s), next (txNamesReq_factory_eq s), next (txNamesReq_user_eq s), next (txAmpcabReq_eq s),
    next (txCurnameReq_eq s), next (txKeepalive_eq s), next (txAck_eq s), fun i => ?_, rfl⟩
  obtain ⟨hruns, e⟩ | ⟨hnot, e⟩ := execTxUpload_cases i s
  · rw [if_pos hruns]
    exact e.trans (next (send_eq_sendOrLog ..))
  · rw [if_neg hnot]
    exact e

/-! The operands of a parameter change (R105, R206). -/

theorem rawOf_ok {p : ParsedFrame} {raw : Bytes} (h : unpack cfg p.wire = .ok raw) : rawOf cfg p = .ok raw := by
  rw [rawOf, h]

theorem rawOf_error {p : ParsedFrame} {x : ErrorCode} (h : unpack cfg p.wire = .error x) :
    rawOf cfg p = .error (.payloadMalformed p.commandCode) := by
  rw [rawOf, h]

theorem paramOperands_ok {p : ParsedFrame} {sect parameter : Byte} {rest : Bytes} {pos value : Nat}
    (hraw : unpack cfg p.wire = .ok (sect :: parameter :: rest))
    (hvalue : varintDec (sect :: parameter :: rest) 2 = .ok (pos, value)) :
    paramOperands cfg p = .ok (sect, parameter, value) := by
  have hlen : ¬ (sect :: parameter :: rest).length < 2 := by simp
  simp only [paramOperands, rawOf_ok hraw, hlen, if_false, hvalue]
  rfl

theorem paramOperands_error {p : ParsedFrame}
    (h : ∀ raw : Bytes, unpack cfg p.wire = .ok raw → raw.length < 2 ∨ ∀ pos value : Nat, varintDec raw 2 ≠ .ok (pos, value)) :
    paramOperands cfg p = .error (.payloadMalformed p.commandCode) := by
  cases hraw : unpack cfg p.wire with
  | error x => simp only [paramOperands, rawOf_error hraw]
  | ok raw =>
    simp only [paramOperands, rawOf_ok hraw]
    obtain hshort | hvarint := h raw hraw
    · rw [if_pos hshort]
    · cases hvalue : varintDec raw 2 with
      | error x => simp
      | ok r => exact absurd hvalue (hvarint r.1 r.2)

/-- R221: section `0x0E` is not dispatched. -/
theorem dispatchParam_ok {p : ParsedFrame} {sect parameter : Byte} {value : Nat} (s : State)
    (h : paramOperands cfg p = .ok (sect, parameter, value)) :
    dispatchParam cfg p s = if sect = 0x0E then s else s.emit (.dispatch (.paramChange sect parameter value)) := by
  rw [dispatchParam, h, orAbort_ok]
  exact ite_not ..

theorem dispatchParam_error {p : ParsedFrame} {x : ErrorCode} (s : State) (h : paramOperands cfg p = .error x) :
    dispatchParam cfg p s = abort cfg x s := by
  rw [dispatchParam, h, orAbort_error]

/-- R221: the operands' dispatch, or its abort, leaves the port and the channel. -/
theorem keepsLink_dispatchParam (p : ParsedFrame) (s : State) : KeepsLink s (dispatchParam cfg p s) :=
  (KeepsLink.refl s).orAbort fun _ => .ite ((KeepsLink.refl s).emit _) (.refl s)

/-- R221: the keep-alive follows whatever the operands led to. -/
theorem handleParam_connected {s : State} (ho : s.portOpen = true) (hc : s.connected = true) (p : ParsedFrame) :
    handleParam cfg p s = (dispatchParam cfg p s).emit (.tx (gnxf s.channel [0x76] 0x30)) := by
  have kept := keepsLink_dispatchParam p s
  rw [handleParam, if_pos hc, txKeepalive_eq, State.sendOrLog_open (kept.portOpen.trans ho), kept.channel]

/-- Settles O41: the clauses are those of the operands' reading, and the keep-alive is one lemma for both. -/
theorem paramChangeIsAlwaysAnsweredByAKeepAlive : Obligations.ParamChangeIsAlwaysAnsweredByAKeepAlive := by
  intro ch wire s ho
  have hexec : exec (.rxParam ch wire) s = .next (handleParam cfg (parsedOf cfg 0x2C ch wire) s.feed) :=
    congrArg Host.Outcome.next (onFrame_open _ _ _ _ _ _ ho)
  refine ⟨fun hc => ?_, fun sect parameter rest pos value hc hraw hvalue => ?_, fun hc hbad => ?_⟩
  · rw [hexec, handleParam, if_neg (by simp [hc])]
    rfl
  · rw [hexec, handleParam_connected (s := s.feed) ho hc,
      dispatchParam_ok _ (paramOperands_ok (p := parsedOf cfg 0x2C ch wire) hraw hvalue)]
    by_cases hsect : sect = 0x0E
    · rw [if_pos hsect, if_pos hsect, List.append_nil]
      rfl
    · rw [if_neg hsect, if_neg hsect]
      rfl
  · rw [hexec, handleParam_connected (s := s.feed) ho hc,
      dispatchParam_error _ (paramOperands_error (p := parsedOf cfg 0x2C ch wire) hbad), abort_feed]
    rfl

/-! The two lists of an amp/cab response (R106). -/

/-- R106: an entry with its pad, as it stands in a payload. -/
def entryBytes (e : NameEntry × Byte) : Bytes :=
  [e.1.index] ++ e.1.name ++ [e.2]

/-- R106: a list behind its count byte. -/
def listBytes (es : List (NameEntry × Byte)) : Bytes :=
  [BitVec.ofNat 8 es.length] ++ es.flatMap entryBytes

theorem nameEntries_succ (raw : Bytes) (pos count : Nat) :
    nameEntries raw pos (count + 1) =
      ⟨byteAt raw pos, slice raw (pos + 1) (pos + 7)⟩ :: nameEntries raw (pos + 8) count := by
  simp only [nameEntries, List.range_succ_eq_map, List.map_cons, List.map_map, Function.comp_def]
  congr 1
  apply List.map_congr_left
  intro i _
  simp [Nat.mul_add, Nat.add_assoc, Nat.add_comm 8]

theorem nameEntries_entryBytes (es : List (NameEntry × Byte)) (before after : Bytes) (h : ∀ e ∈ es, e.1.name.length = 6) :
    nameEntries (before ++ es.flatMap entryBytes ++ after) before.length es.length = es.map (·.1) := by
  induction es generalizing before with
  | nil => rfl
  | cons e es ih =>
    obtain ⟨he, hes⟩ := List.forall_mem_cons.mp h
    have hlen : (before ++ entryBytes e).length = before.length + 8 := by simp [entryBytes, he]
    have hraw : before ++ (e :: es).flatMap entryBytes ++ after =
        before ++ entryBytes e ++ (es.flatMap entryBytes ++ after) := by simp
    have hindex : byteAt (before ++ entryBytes e ++ (es.flatMap entryBytes ++ after)) before.length = e.1.index := by
      simp [byteAt, entryBytes]
    have hname : slice (before ++ entryBytes e ++ (es.flatMap entryBytes ++ after)) (before.length + 1) (before.length + 7) =
        e.1.name := by
      simp [slice, entryBytes, he]
    rw [List.length_cons, nameEntries_succ, hraw, hindex, hname, ← hlen, ← List.append_assoc, ih _ hes]
    rfl

/-- R217: the list's entries are all there. -/
theorem nameList_ok (x : ErrorCode) {raw : Bytes} {pos : Nat} (h : pos + 1 + 8 * (byteAt raw pos).toNat ≤ raw.length) :
    nameList x raw pos =
      .ok (nameEntries raw (pos + 1) (byteAt raw pos).toNat, pos + 1 + 8 * (byteAt raw pos).toNat) := by
  have hpos : ¬ pos ≥ raw.length := by omega
  simp only [nameList, hpos, if_false, gt_iff_lt, Nat.not_lt.mpr h]

/-- R217: the count byte or an entry is not there. -/
theorem nameList_error (x : ErrorCode) {raw : Bytes} {pos : Nat} (h : raw.length < pos + 1 + 8 * (byteAt raw pos).toNat) :
    nameList x raw pos = .error x := by
  simp [nameList, h]

theorem length_listBytes {es : List (NameEntry × Byte)} (h : ∀ e ∈ es, e.1.name.length = 6) :
    (listBytes es).length = 1 + 8 * es.length := by
  have hentry : es.map (fun e => (entryBytes e).length) = es.map fun _ => 8 :=
    List.map_congr_left fun e he => by simp [entryBytes, h e he]
  simp [listBytes, List.length_flatMap, hentry, Nat.add_comm, Nat.mul_comm]

theorem nameList_listBytes (x : ErrorCode) {es : List (NameEntry × Byte)} (before after : Bytes) (hcount : es.length < 256)
    (h : ∀ e ∈ es, e.1.name.length = 6) :
    nameList x (before ++ listBytes es ++ after) before.length = .ok (es.map (·.1), before.length + (listBytes es).length) := by
  have hbyte : (byteAt (before ++ listBytes es ++ after) before.length).toNat = es.length := by
    simp [byteAt, listBytes, Nat.mod_eq_of_lt hcount]
  have hentries : nameEntries (before ++ listBytes es ++ after) (before.length + 1) es.length = es.map (·.1) := by
    simpa [listBytes] using nameEntries_entryBytes es (before ++ [BitVec.ofNat 8 es.length]) after h
  have hfits : before.length + 1 + 8 * es.length ≤ (before ++ listBytes es ++ after).length := by
    simp only [List.length_append, length_listBytes h]; omega
  rw [nameList_ok x (by rwa [hbyte]), hbyte, hentries, length_listBytes h, Nat.add_assoc]

theorem ampCabOperands_ok {p : ParsedFrame} {amps cabs : List (NameEntry × Byte)} {tail : Bytes} (ha : amps.length < 256)
    (hc : cabs.length < 256) (hnames : ∀ e ∈ amps ++ cabs, e.1.name.length = 6)
    (hraw : unpack cfg p.wire = .ok (listBytes amps ++ listBytes cabs ++ tail)) :
    ampCabOperands cfg p = .ok (amps.map (·.1), cabs.map (·.1)) := by
  obtain ⟨hamps, hcabs⟩ := List.forall_mem_append.mp hnames
  have hfirst := nameList_listBytes (.payloadMalformed p.commandCode) [] (listBytes cabs ++ tail) ha hamps
  have hsecond := nameList_listBytes (.payloadMalformed p.commandCode) (listBytes amps) tail hc hcabs
  simp only [List.nil_append, List.length_nil, Nat.zero_add, ← List.append_assoc] at hfirst
  simp only [ampCabOperands, rawOf_ok hraw, hfirst, hsecond]

theorem ampCabOperands_error {p : ParsedFrame} {raw : Bytes} (hraw : unpack cfg p.wire = .ok raw)
    (hshort : raw.length < 2 + 8 * (byteAt raw 0).toNat ∨
      raw.length < 2 + 8 * (byteAt raw 0).toNat + 8 * (byteAt raw (1 + 8 * (byteAt raw 0).toNat)).toNat) :
    ampCabOperands cfg p = .error (.payloadMalformed p.commandCode) := by
  by_cases hamps : raw.length < 0 + 1 + 8 * (byteAt raw 0).toNat
  · simp only [ampCabOperands, rawOf_ok hraw, nameList_error _ hamps]
  · rw [Nat.zero_add] at hamps
    have hcabs : raw.length < 1 + 8 * (byteAt raw 0).toNat + 1 + 8 * (byteAt raw (1 + 8 * (byteAt raw 0).toNat)).toNat := by omega
    have hfirst := nameList_ok (.payloadMalformed p.commandCode) (pos := 0) (by simpa using hamps)
    simp only [Nat.zero_add] at hfirst
    simp only [ampCabOperands, rawOf_ok hraw, hfirst, nameList_error _ hcabs]

/-- Settles O38: the payload is the bytes of two lists and a tail, or too short for one of them. -/
theorem ampCabResponseReadsBothLists : Obligations.AmpCabResponseReadsBothLists := by
  intro ch wire s ho
  have hexec : exec (.rxAmpcab ch wire) s = .next (handleAmpcab cfg (parsedOf cfg 0x08 ch wire) s.feed) :=
    congrArg Host.Outcome.next (onFrame_open _ _ _ _ _ _ ho)
  have haborts (h : ampCabOperands cfg (parsedOf cfg 0x08 ch wire) = .error (.payloadMalformed 0x08)) :
      exec (.rxAmpcab ch wire) s = .next (abortedFrom s [] (.payloadMalformed 0x08)) := by
    rw [hexec, handleAmpcab, h, orAbort_error, abort_feed]
  refine ⟨fun amps cabs tail ha hc hnames hraw => ?_, fun x hx => haborts ?_, fun raw hraw hshort => haborts ?_⟩
  · have hread : ampCabOperands cfg (parsedOf cfg 0x08 ch wire) = .ok (amps.map (·.1), cabs.map (·.1)) :=
      ampCabOperands_ok (tail := tail) ha hc hnames (hraw.trans (by simp only [listBytes, List.append_assoc]; rfl))
    rw [hexec, handleAmpcab, hread, orAbort_ok]
    by_cases hresync : s.resyncing = true
    · simp [hresync, txCurnameReq_eq, State.sendOrLog_open, ho, State.emit, State.feed]
    · simp [hresync, State.emit, State.feed]
  · rw [ampCabOperands, rawOf_error (p := parsedOf cfg 0x08 ch wire) hx]
    rfl
  · exact ampCabOperands_error hraw hshort

end Sys2Proof.Machine
end

section
/-! PROOFS. The family of spec/40_varint.md: VARINT.ENC emits the shortest form of its value (`varintEnc_eq`), VARINT.DEC reads the
bytes from the cursor on (`varintDec_of_drop_eq_cons`) and so that form back, wherever it stands (`varintDec_shortestForm`), and a run of
calls reads the forms one after another. -/

namespace Sys2Proof.Machine

theorem exec_varintEnc (value : BitVec 32) (s : State) :
    exec (.varintEnc value) s = .next { s with returned := some (bytesResult (varintEnc cfg value)) } := rfl

theorem exec_varintDec (buf : Bytes) (pos : Nat) (s : State) :
    exec (.varintDec buf pos) s = .next { s with returned := some (cursorResult (varintDec buf pos)) } := rfl

@[simp] theorem bytesResult_ok (bs : Bytes) : bytesResult (.ok bs) = .bytes bs := rfl
@[simp] theorem bytesResult_error (x : ErrorCode) : bytesResult (.error x) = .err x := rfl
@[simp] theorem cursorResult_ok (pos value : Nat) : cursorResult (.ok (pos, value)) = .cursorValue pos value := rfl
@[simp] theorem cursorResult_error (x : ErrorCode) : cursorResult (.error x) = .err x := rfl

/-! VARINT.DEC on the bytes from the cursor on (R132). -/

theorem accumulate_eq_foldl (value : Nat) (bs : Bytes) :
    accumulate value bs = bs.foldl (fun value x => value * 256 + x.toNat) value := by
  induction bs generalizing value with
  | nil => rfl
  | cons b bs ih => exact ih _

theorem toNat_low7_of_marker {b : Byte} (h : 0x80 ≤ b.toNat) : (low7 b).toNat = b.toNat - 0x80 := by
  rw [low7, BitVec.toNat_setWidth]
  omega

theorem varintDec_of_drop_eq_nil {buf : Bytes} {pos : Nat} (h : buf.drop pos = []) :
    varintDec buf pos = .error (.varintTruncated pos) :=
  if_pos (List.drop_eq_nil_iff.mp h)

theorem varintDec_of_drop_eq_cons {buf : Bytes} {pos : Nat} {b : Byte} {rest : Bytes} (h : buf.drop pos = b :: rest) :
    varintDec buf pos =
      if b.toNat < 0x80 then .ok (pos + 1, b.toNat)
      else if b.toNat = 0x80 ∨ b.toNat > 0x83 then .error (.varintMalformed pos b)
      else if rest.length < b.toNat - 0x80 then .error (.varintTruncated pos)
      else .ok (pos + 1 + (b.toNat - 0x80), accumulate 0 (rest.take (b.toNat - 0x80))) := by
  have hlength : buf.length - pos = rest.length + 1 := by rw [← List.length_drop, h, List.length_cons]
  have hread : byteAt buf pos = b := by
    rw [byteAt, List.getD_eq_getElem?_getD, ← List.head?_drop, h]; rfl
  have hrest : buf.drop (pos + 1) = rest := by rw [← List.drop_drop, h]; rfl
  rw [varintDec, if_neg (by omega), hread]
  by_cases hseven : b.toNat < 0x80
  · simp only [(is7_iff b).mpr hseven, hseven, if_true]
  · have hmarker : is7 b = false := Bool.eq_false_iff.mpr (mt (is7_iff b).mp hseven)
    have hmalformed : (b.toNat - 0x80 = 0 ∨ b.toNat - 0x80 > 3) ↔ (b.toNat = 0x80 ∨ b.toNat > 0x83) := by omega
    have hshort : pos + 1 + (b.toNat - 0x80) > buf.length ↔ rest.length < b.toNat - 0x80 := by omega
    simp only [hmarker, hseven, toNat_low7_of_marker (Nat.le_of_not_lt hseven), hmalformed, hshort, slice, hrest,
      Nat.add_sub_cancel_left, if_false, Bool.false_eq_true]

/-! The shortest form of a value (R131). -/

/-- R131: the marker count of the shortest form of a value, 0 where the value is its own byte. -/
def shortestCount (v : Nat) : Nat :=
  if v < 0x80 then 0 else if v < 0x100 then 1 else if v < 0x10000 then 2 else 3

/-- R131: the bytes of the shortest form of a value. -/
def shortestForm (v : Nat) : Bytes :=
  varintForm (shortestCount v) v

theorem shortestForm_eq (v : Nat) :
    shortestForm v =
      if v < 0x80 then [BitVec.ofNat 8 v]
      else if v < 0x100 then [0x81, BitVec.ofNat 8 v]
      else if v < 0x10000 then [0x82, BitVec.ofNat 8 (v / 256), BitVec.ofNat 8 v]
      else [0x83, BitVec.ofNat 8 (v / 65536), BitVec.ofNat 8 (v / 256), BitVec.ofNat 8 v] := by
  have htop : v / 65536 = v / 256 / 256 := (Nat.div_div_eq_div_mul v 256 256).symm
  rw [shortestForm, shortestCount, htop]
  split_ifs <;> rfl

theorem extractLsb'_eq_ofNat_div (value : BitVec 32) (k : Nat) :
    value.extractLsb' k 8 = BitVec.ofNat 8 (value.toNat / 2 ^ k) := by
  rw [BitVec.extractLsb', Nat.shiftRight_eq_div_pow]

/-- R131: each byte taken from the word is the value divided by a power of 256. -/
theorem varintEnc_eq (value : BitVec 32) :
    varintEnc cfg value =
      if value.toNat > 0xFFFFFF then .error (.varintDomain value) else .ok (shortestForm value.toNat) := by
  simp only [varintEnc, shortestForm_eq, extractLsb'_eq_ofNat_div, apply_ite Except.ok, cfg_varintMax, Nat.reducePow,
    Nat.div_one]

/-- Settles O1: VARINT.ENC answers the domain error or the shortest form, whose bytes `shortestForm_eq` lists by range. -/
theorem varintEncodeEmitsTheShortestForm : Obligations.VarintEncodeEmitsTheShortestForm := by
  intro value s
  rw [exec_varintEnc, varintEnc_eq, shortestForm_eq]
  simp only [apply_ite bytesResult, apply_ite Result.bytes, bytesResult_ok, bytesResult_error]

theorem exec_varintEnc_shortestForm {value : BitVec 32} (h : value.toNat ≤ 0xFFFFFF) (s : State) :
    exec (.varintEnc value) s = .next { s with returned := some (.bytes (shortestForm value.toNat)) } := by
  rw [exec_varintEnc, varintEnc_eq, if_neg (Nat.not_lt.mpr h), bytesResult_ok]

/-! VARINT.DEC reads the shortest form wherever it stands (R133). -/

theorem varintDec_marker {buf : Bytes} {pos n v : Nat} {tail : Bytes} (hn : n < 3) (hv : v < 256 ^ (n + 1))
    (h : buf.drop pos = varintForm (n + 1) v ++ tail) : varintDec buf pos = .ok (pos + (n + 2), v) := by
  have hcount : (BitVec.ofNat 8 (0x80 + (n + 1))).toNat = 0x80 + (n + 1) := by rw [BitVec.toNat_ofNat]; omega
  rw [varintForm, List.cons_append] at h
  rw [varintDec_of_drop_eq_cons h, hcount, if_neg (by omega), if_neg (by omega), Nat.add_sub_cancel_left,
    if_neg (by rw [List.length_append, length_bigEndian]; omega), List.take_left' (length_bigEndian ..), accumulate_bigEndian hv, Nat.add_assoc, Nat.add_comm 1]

theorem varintDec_shortestForm {buf : Bytes} {pos v : Nat} {tail : Bytes} (hv : v ≤ 0xFFFFFF)
    (h : buf.drop pos = shortestForm v ++ tail) : varintDec buf pos = .ok (pos + (shortestForm v).length, v) := by
  unfold shortestForm shortestCount at *
  split_ifs at * with h1 h2 h3
  · have hbyte : (BitVec.ofNat 8 v).toNat = v := by rw [BitVec.toNat_ofNat]; omega
    rw [varintDec_of_drop_eq_cons h, hbyte, if_pos h1]; rfl
  · exact varintDec_marker (n := 0) (by decide) h2 h
  · exact varintDec_marker (n := 1) (by decide) h3 h
  · exact varintDec_marker (n := 2) (by decide) (Nat.lt_succ_of_le hv) h

/-- Settles O3: the bytes are the value's shortest form, which VARINT.DEC reads at any cursor, here at 0. -/
theorem varintDecodeInvertsEncode : Obligations.VarintDecodeInvertsEncode := by
  intro value tail s hvalue
  refine ⟨shortestForm value.toNat, exec_varintEnc_shortestForm hvalue s, fun t => ?_⟩
  rw [exec_varintDec, varintDec_shortestForm (tail := tail) hvalue rfl, Nat.zero_add, cursorResult_ok]

/-- Settles O2: the bytes from the cursor on are none, or a first byte and the rest. -/
theorem varintDecodeReadsFirstByteThenCountedBytes : Obligations.VarintDecodeReadsFirstByteThenCountedBytes := by
  intro buf pos s
  rw [exec_varintDec]
  cases h : buf.drop pos with
  | nil => rw [varintDec_of_drop_eq_nil h, cursorResult_error]
  | cons b rest =>
    rw [varintDec_of_drop_eq_cons h]
    simp only [apply_ite cursorResult, cursorResult_ok, cursorResult_error, accumulate_eq_foldl]

/-! A run of varints (R135). -/

theorem varintDecSeq_shortestForms {buf tail : Bytes} {values : List Nat} {pos : Nat} (hv : ∀ v ∈ values, v ≤ 0xFFFFFF)
    (h : buf.drop pos = (values.map shortestForm).flatten ++ tail) :
    varintDecSeq buf values.length pos = .ok (pos + (values.map shortestForm).flatten.length, values) := by
  induction values generalizing pos with
  | nil => rfl
  | cons v values ih =>
    obtain ⟨hhead, htail⟩ := List.forall_mem_cons.mp hv
    rw [List.map_cons, List.flatten_cons, List.append_assoc] at h
    have hnext : buf.drop (pos + (shortestForm v).length) = (values.map shortestForm).flatten ++ tail := by
      rw [← List.drop_drop, h, List.drop_left]
    simp only [List.length_cons, varintDecSeq, varintDec_shortestForm hhead h, ih htail hnext, List.map_cons,
      List.flatten_cons, List.length_append, Nat.add_assoc]

/-- Settles O4: the byte lists are the values' shortest forms, and after one is read the cursor stands at the next. -/
theorem varintSequenceReadsEveryValue : Obligations.VarintSequenceReadsEveryValue := by
  intro values tail hvalues
  refine ⟨values.map fun v => shortestForm v.toNat, ?_, ?_⟩
  · exact List.forall₂_map_right_iff.mpr
      (List.forall₂_same.mpr fun v hv => exec_varintEnc_shortestForm (hvalues v hv))
  · have hforms : values.map (fun v => shortestForm v.toNat) = (values.map (·.toNat)).map shortestForm := by
      rw [List.map_map]; rfl
    have hrun := varintDecSeq_shortestForms (tail := tail) (pos := 0) (List.forall_mem_map.mpr hvalues) rfl
    rwa [List.length_map, Nat.zero_add, ← hforms] at hrun

end Sys2Proof.Machine
end

section
/-! PROOFS. The family of spec/41_nibble_packer.md: UNPACK reads what PACK makes (`unpack_pack`) and accepts nothing else
(`pack_of_unpack_ok`), and refuses every other wire payload at one of its indices (`unpack_error`). -/

namespace Sys2Proof.Machine

theorem exec_pack (raw : Bytes) (s : State) :
    exec (.pack raw) s = .next { s with returned := some (.bytes (pack cfg raw)) } := rfl

theorem exec_unpack (wire : Bytes) (s : State) :
    exec (.unpack wire) s = .next { s with returned := some (bytesResult (unpack cfg wire)) } := rfl

/-- Settles O8: PACK's result is the wire payload, which UNPACK reads back group by group. -/
theorem unpackInvertsPack : Obligations.UnpackInvertsPack := by
  intro x s
  refine ⟨pack cfg x, exec_pack x s, fun t => ?_⟩
  rw [exec_unpack, unpack_pack, bytesResult_ok]

/-! Where UNPACK fails (R153). -/

theorem unpackBytes_error {a : Align} {k : Nat} {h : Byte} {i j : Nat} {d : Bytes} {x : ErrorCode}
    (hx : unpackBytes a k h i j d = .error x) : ∃ m, m < d.length ∧ x = .packMalformed (i + 1 + (j + m)) := by
  induction d generalizing j with
  | nil => cases hx
  | cons b bs ih =>
    rw [unpackBytes] at hx
    split at hx
    · split at hx
      next e hrest =>
        obtain rfl : e = x := Except.error.inj hx
        obtain ⟨m, hm, rfl⟩ := ih hrest
        exact ⟨m + 1, Nat.succ_lt_succ hm, by rw [Nat.add_assoc j, Nat.add_comm 1]⟩
      next => cases hx
    · exact ⟨0, Nat.zero_lt_succ _, (Except.error.inj hx).symm⟩

/-- The failure is at the header or at a data byte. -/
theorem unpackGroup_error {a : Align} {i : Nat} {h : Byte} {d : Bytes} {x : ErrorCode} (hx : unpackGroup a i h d = .error x) :
    ∃ m, m ≤ d.length ∧ x = .packMalformed (i + m) := by
  have header (e : .error (.packMalformed i) = (.error x : Except ErrorCode Bytes)) :
      ∃ m, m ≤ d.length ∧ x = .packMalformed (i + m) := ⟨0, Nat.zero_le _, (Except.error.inj e).symm⟩
  rw [unpackGroup] at hx
  split at hx
  · exact header hx
  split at hx
  · exact header hx
  split at hx
  next e hbytes =>
    obtain rfl : e = x := Except.error.inj hx
    obtain ⟨m, hm, rfl⟩ := unpackBytes_error hbytes
    exact ⟨m + 1, hm, congrArg _ (by omega)⟩
  next =>
    split at hx
    · exact header hx
    · cases hx

theorem unpackGroups_error {n i : Nat} {w : Bytes} {x : ErrorCode} (hx : unpackGroups cfg n i w = .error x) :
    ∃ m, m < w.length ∧ x = .packMalformed (i + m) := by
  induction n generalizing i w with
  | zero => cases hx
  | succ n ih =>
    cases w with
    | nil => cases hx
    | cons h rest =>
      rw [unpackGroups, cfg_group] at hx
      split at hx
      next e hgroup =>
        obtain rfl : e = x := Except.error.inj hx
        obtain ⟨m, hm, rfl⟩ := unpackGroup_error hgroup
        exact ⟨m, Nat.lt_succ_of_le (hm.trans (List.length_take_le' _ _)), rfl⟩
      next =>
        split at hx
        next e hrest =>
          obtain rfl : e = x := Except.error.inj hx
          obtain ⟨m, hm, rfl⟩ := ih hrest
          refine ⟨1 + (rest.take 7).length + m, ?_, congrArg _ (by omega)⟩
          rw [List.length_drop] at hm
          rw [List.length_take, List.length_cons]
          omega
        next => cases hx

/-- R153: UNPACK fails only with PackMalformed, at an index inside its operand. -/
theorem unpack_error {w : Bytes} {x : ErrorCode} (hx : unpack cfg w = .error x) :
    ∃ i, i < w.length ∧ x = .packMalformed i := by
  obtain ⟨i, hi, rfl⟩ := unpackGroups_error hx
  exact ⟨i, hi, by rw [Nat.zero_add]⟩

/-! PACK of what UNPACK answers (R154 (2)). -/

theorem msb_withFlag (flag : Bool) {b : Byte} (hb : is7 b = true) : (withFlag flag b).msb = flag := by
  have hmsb : b.msb = false := by simpa [is7] using hb
  cases flag
  · exact hmsb
  · rw [withFlag, if_pos rfl, BitVec.msb_or, hmsb]
    rfl

theorem and_mask_of_is7 {b : Byte} (hb : is7 b = true) : b &&& 0x7F = b := by
  rw [is7_iff] at hb
  apply BitVec.eq_of_toNat_eq
  rw [BitVec.toNat_and]
  exact (Nat.and_two_pow_sub_one_eq_mod _ 7).trans (Nat.mod_eq_of_lt hb)

theorem withFlag_mask (flag : Bool) {b : Byte} (hb : is7 b = true) : withFlag flag b &&& 0x7F = b := by
  cases flag
  · exact and_mask_of_is7 hb
  · have hbit : (0x80 : Byte) &&& 0x7F = 0 := rfl
    rw [withFlag, if_pos rfl, BitVec.and_or_distrib_right, and_mask_of_is7 hb, hbit]
    exact BitVec.or_zero

theorem is7_getElem {d : Bytes} (hd : all7 d = true) {j : Nat} (hj : j < d.length) : is7 d[j] = true :=
  List.all_eq_true.mp hd _ (List.getElem_mem hj)

/-- R154 (2): the header of the raw bytes of a group is the group's, when no flag is without a data byte. -/
theorem headerFrom_mapIdx_withFlag {h : Byte} {d : Bytes} (hh : is7 h = true) (hd : all7 d = true) (hle : d.length ≤ 7)
    (hunused : unusedFlags .left d.length h = 0) :
    headerFrom .left d.length 0 (d.mapIdx fun j b => withFlag (h.getLsbD (6 - j)) b) = h := by
  generalize hout : d.mapIdx (fun j b => withFlag (h.getLsbD (6 - j)) b) = out
  have hlen : out.length = d.length := by rw [← hout, List.length_mapIdx]
  apply BitVec.eq_of_getLsbD_eq
  intro n hn
  obtain rfl | hlow := Nat.eq_or_lt_of_le (Nat.le_of_lt_succ hn)
  · have hbit7 {b : Byte} (hb : is7 b = true) : b.getLsbD 7 = false := by
      simpa [is7, BitVec.msb_eq_getLsbD_last] using hb
    rw [hbit7 hh, hbit7 (is7_headerFrom ..)]
  · obtain ⟨i, rfl, hi⟩ : ∃ i, n = 6 - i ∧ i < 7 := ⟨6 - n, by omega, by omega⟩
    rw [← hlen, getLsbD_header (hlen ▸ hle) hi]
    obtain hlane | habsent := Nat.lt_or_ge i d.length
    · subst hout
      rw [List.getD_eq_getElem _ _ (hlen ▸ hlane), List.getElem_mapIdx, msb_withFlag _ (is7_getElem hd hlane)]
    · rw [List.getD_eq_default _ _ (hlen ▸ habsent), (unusedFlags_eq_zero_iff _ _).mp hunused _ (by omega)]
      rfl

theorem map_mask_mapIdx_withFlag (flag : Nat → Bool) {d : Bytes} (hd : all7 d = true) :
    (d.mapIdx fun j b => withFlag (flag j) b).map (· &&& 0x7F) = d := by
  apply List.ext_getElem
  · simp
  · intro j _ hj
    rw [List.getElem_map, List.getElem_mapIdx, withFlag_mask _ (is7_getElem hd hj)]

theorem all7_of_unpackBytes_ok {a : Align} {k : Nat} {h : Byte} {i j : Nat} {d out : Bytes}
    (hout : unpackBytes a k h i j d = .ok out) : all7 d = true := by
  induction d generalizing j out with
  | nil => rfl
  | cons b bs ih =>
    rw [unpackBytes] at hout
    split at hout
    next hb =>
      split at hout
      next => cases hout
      next hrest => rw [all7_cons, hb, ih hrest, Bool.and_self]
    next => cases hout

/-- R153: what the tests of one group have shown when it is accepted. -/
theorem checks_of_unpackGroup_ok {a : Align} {i : Nat} {h : Byte} {d out : Bytes} (hout : unpackGroup a i h d = .ok out) :
    is7 h = true ∧ d ≠ [] ∧ all7 d = true := by
  rw [unpackGroup] at hout
  split at hout
  · cases hout
  next hh =>
    split at hout
    · cases hout
    next hne =>
      split at hout
      · cases hout
      next hbytes => exact ⟨by simpa using hh, hne, all7_of_unpackBytes_ok hbytes⟩

/-- R154 (2), for one group. -/
theorem packGroup_of_unpackGroup_ok {i : Nat} {h : Byte} {d out : Bytes} (hle : d.length ≤ 7)
    (hout : unpackGroup .left i h d = .ok out) : packGroup .left out = h :: d := by
  obtain ⟨hh, hne, hd⟩ := checks_of_unpackGroup_ok hout
  rw [unpackGroup_left i hh hne hd] at hout
  split at hout
  · cases hout
  next hunused =>
    obtain rfl := Except.ok.inj hout
    rw [packGroup, List.length_mapIdx, headerFrom_mapIdx_withFlag hh hd hle (not_not.mp hunused),
      map_mask_mapIdx_withFlag _ hd]

theorem eq_nil_of_pack_eq_nil {data : Bytes} (h : pack cfg data = []) : data = [] := by
  have hlen := length_pack data
  rw [h, List.length_nil] at hlen
  exact List.length_eq_zero_iff.mp (by omega)

/-- R150: a group that is full, or the last one, is packed apart from the rest. -/
theorem pack_append {group rest : Bytes} (hne : group ≠ []) (hle : group.length ≤ 7)
    (h : rest = [] ∨ group.length = 7) : pack cfg (group ++ rest) = packGroup .left group ++ pack cfg rest := by
  rw [pack_groups _ (List.append_ne_nil_of_left_ne_nil hne _)]
  obtain rfl | hfull := h
  · rw [List.append_nil, List.take_of_length_le hle, List.drop_of_length_le hle]
  · rw [List.take_left' hfull, List.drop_left' hfull]

theorem pack_of_unpackGroups_ok {n i : Nat} {w x : Bytes} (hn : w.length ≤ n) (hx : unpackGroups cfg n i w = .ok x) :
    pack cfg x = w := by
  induction n generalizing i w x with
  | zero =>
    obtain rfl := List.length_eq_zero_iff.mp (Nat.le_zero.mp hn)
    obtain rfl := Except.ok.inj hx
    rfl
  | succ n ih =>
    cases w with
    | nil =>
      obtain rfl := Except.ok.inj hx
      rfl
    | cons h rest =>
      rw [unpackGroups, cfg_group, cfg_partialAlign] at hx
      split at hx
      · cases hx
      next group hgroup =>
        split at hx
        · cases hx
        next more hmore =>
          obtain rfl := Except.ok.inj hx
          have hpacked := packGroup_of_unpackGroup_ok (List.length_take_le _ _) hgroup
          have hrest : pack cfg more = rest.drop 7 := by
            refine ih ?_ hmore
            simp at hn ⊢
            omega
          have hlen : group.length = (rest.take 7).length := by
            simpa [length_packGroup] using congrArg List.length hpacked
          have hne : group ≠ [] := by
            obtain ⟨_, hd, _⟩ := checks_of_unpackGroup_ok hgroup
            exact List.ne_nil_of_length_pos (hlen ▸ List.length_pos_of_ne_nil hd)
          have hfull : more = [] ∨ group.length = 7 :=
            (drop_eq_nil_or_length_take rest).imp (fun hlast => eq_nil_of_pack_eq_nil (hrest.trans hlast)) hlen.trans
          rw [pack_append hne (hlen ▸ List.length_take_le _ _) hfull, hpacked, hrest, List.cons_append, List.take_append_drop]

/-- R154 (2): UNPACK accepts only what PACK makes. -/
theorem pack_of_unpack_ok {w x : Bytes} (hx : unpack cfg w = .ok x) : pack cfg x = w :=
  pack_of_unpackGroups_ok (Nat.le_refl _) hx

/-- R154. -/
theorem unpack_eq_ok_iff {w x : Bytes} : unpack cfg w = .ok x ↔ pack cfg x = w :=
  ⟨pack_of_unpack_ok, fun h => h ▸ unpack_pack x⟩

theorem bytesResult_eq_bytes_iff {r : Except ErrorCode Bytes} {x : Bytes} : bytesResult r = .bytes x ↔ r = .ok x := by
  cases r <;> simp

/-- Settles O9: an accepted wire payload is what PACK makes of the answer, and a refused one is refused at one of its indices. -/
theorem unpackAcceptsExactlyWhatPackMakes : Obligations.UnpackAcceptsExactlyWhatPackMakes := by
  intro w s
  refine ⟨_, exec_unpack w s, fun x => bytesResult_eq_bytes_iff.trans unpack_eq_ok_iff, fun hnone => ?_⟩
  cases hr : unpack cfg w with
  | ok x => exact absurd (pack_of_unpack_ok hr) (hnone x)
  | error x =>
    obtain ⟨i, hi, rfl⟩ := unpack_error hr
    exact ⟨i, hi, bytesResult_error _⟩

end Sys2Proof.Machine
end

section
/-! PROOFS. The family of spec/42_sysex_frame.md: the exclusive or from either end, FRAME.BUILD's one test (`frameBuild_eq`), the places
FRAME.PARSE reads as parts of the message without its delimiters, and what an accepted message has passed (`frameParse_ok`). -/

namespace Sys2Proof.Machine

theorem exec_cksum (bs : Bytes) (s : State) :
    exec (.cksum bs) s = .next { s with returned := some (.byte (cksum bs)) } := rfl

theorem exec_frameBuild (ch cmd : Byte) (wire : Bytes) (s : State) :
    exec (.frameBuild ch cmd wire) s = .next { s with returned := some (bytesResult (frameBuild cfg ch cmd wire)) } := rfl

theorem exec_frameBuildP (ch cmd : Byte) (raw : Bytes) (s : State) :
    exec (.frameBuildP ch cmd raw) s = .next { s with returned := some (bytesResult (frameBuildP cfg ch cmd raw)) } := rfl

theorem exec_frameParse (m : Bytes) (s : State) :
    exec (.frameParse m) s = .next { s with returned := some (frameResult (frameParse cfg m)) } := rfl

theorem exec_frameUnpack (m : Bytes) (s : State) :
    exec (.frameUnpack m) s = .next { s with returned := some (bytesResult (frameUnpack cfg m)) } := rfl

@[simp] theorem frameResult_ok (p : ParsedFrame) : frameResult (.ok p) = .frame p := rfl
@[simp] theorem frameResult_error (x : ErrorCode) : frameResult (.error x) = .err x := rfl

/-! 7-bit lists (R8, R91). -/

theorem is7_eq_decide (b : Byte) : is7 b = decide (b.toNat < 0x80) := by
  rw [Bool.eq_iff_iff, is7_iff, decide_eq_true_iff]

theorem all7_eq_all (bs : Bytes) : all7 bs = bs.all fun b => decide (b.toNat < 0x80) := by
  rw [all7, funext is7_eq_decide]

theorem not_all7_eq_any (bs : Bytes) : (!all7 bs) = bs.any fun b => decide (0x80 ≤ b.toNat) := by
  rw [all7_eq_all, List.not_all_eq_any_not]
  simp only [← decide_not, Nat.not_lt]

/-! The exclusive or (R171, R178). -/

theorem cksum_eq_foldr (bs : Bytes) : cksum bs = bs.foldr (· ^^^ ·) 0 := by
  induction bs with
  | nil => rfl
  | cons b bs ih => rw [cksum_cons, ih, List.foldr_cons]

/-- R177 (3): a difference in one byte is the difference of the checksums. -/
theorem cksum_set_xor {bs : Bytes} {i : Nat} {b : Byte} (h : bs[i]? = some b) (d : Byte) :
    cksum (bs.set i (b ^^^ d)) = cksum bs ^^^ d := by
  induction bs generalizing i with
  | nil => cases h
  | cons x bs ih =>
    cases i with
    | zero =>
      obtain rfl : x = b := by simpa using h
      rw [List.set_cons_zero, cksum_cons, cksum_cons]
      ac_rfl
    | succ i => rw [List.set_cons_succ, cksum_cons, cksum_cons, ih (by simpa using h), BitVec.xor_assoc]

/-- Settles O10: every byte goes to the left of what the bytes after it make. -/
theorem checksumIsExclusiveOrOfAllBytes : Obligations.ChecksumIsExclusiveOrOfAllBytes := by
  intro bs s
  rw [exec_cksum, cksum_eq_foldr]

/-! FRAME.BUILD (R172, R173). -/

/-- R172: the fixed ids are 7-bit values, and so the test is one of the operands. -/
theorem frameBuild_eq (ch cmd : Byte) (wire : Bytes) :
    frameBuild cfg ch cmd wire =
      if all7 (ch :: cmd :: wire) then .ok (frameBytes cfg ch cmd wire) else .error .frameDomain := by
  have hids : all7 (frameBody cfg ch cmd wire) = all7 (ch :: cmd :: wire) := by
    simp only [frameBody, List.cons_append, List.nil_append, all7_cons]
    rfl
  rw [frameBuild, hids]

theorem frameBuild_seven (ch cmd : Seven) {wire : Bytes} (h : all7 wire = true) :
    frameBuild cfg (wide ch) (wide cmd) wire = .ok (frameBytes cfg (wide ch) (wide cmd) wire) := by
  rw [frameBuild_eq, if_pos (by simp [h])]

/-- R173: PACK makes 7-bit values, and so the test is one of the channel and the command. -/
theorem frameBuildP_eq (ch cmd : Byte) (raw : Bytes) :
    frameBuildP cfg ch cmd raw =
      if ch.toNat < 0x80 ∧ cmd.toNat < 0x80 then .ok (gnxfOf (low7 ch) (low7 cmd) raw) else .error .frameDomain := by
  have htest : all7 (ch :: cmd :: pack cfg raw) = true ↔ ch.toNat < 0x80 ∧ cmd.toNat < 0x80 := by
    simp only [all7_cons, all7_pack, Bool.and_true, Bool.and_eq_true, is7_iff]
  rw [frameBuildP, frameBuild_eq]
  simp only [htest]
  split
  case isTrue h =>
    obtain ⟨hch, hcmd⟩ := h
    rw [gnxfOf_eq, wide_low7 ch ((is7_iff ch).mpr hch), wide_low7 cmd ((is7_iff cmd).mpr hcmd)]
  case isFalse => rfl

/-- Settles O11: the result is the frame of the body, or the one error, by FRAME.BUILD's test. -/
theorem frameBuildMakesTheEnvelope : Obligations.FrameBuildMakesTheEnvelope := by
  intro ch cmd wire s
  have hframe : frameBytes cfg ch cmd wire = [0xF0, 0x00, 0x00, 0x10, ch, 0x56, cmd] ++ wire ++
      [([0x00, 0x00, 0x10, ch, 0x56, cmd] ++ wire).foldl (· ^^^ ·) 0, 0xF7] := rfl
  rw [exec_frameBuild, frameBuild_eq, ← all7_eq_all, ← hframe, apply_ite bytesResult, bytesResult_ok, bytesResult_error]

/-- Settles O12: the result is FRAME.BUILDP's frame or its one error (`frameBuildP_eq`). -/
theorem frameBuildPackedFailsOnlyThroughChannelOrCommand :
    Obligations.FrameBuildPackedFailsOnlyThroughChannelOrCommand := by
  intro ch cmd raw s
  rw [exec_frameBuildP, frameBuildP_eq, apply_ite bytesResult, bytesResult_ok, bytesResult_error]

/-- Settles O14: FRAME.BUILD's frame is the one FRAME.PARSE reads back (`frameParse_frameBytes`). -/
theorem frameParseInvertsBuild : Obligations.FrameParseInvertsBuild := by
  intro ch cmd wire s hwire
  have h7 : all7 wire = true := by simpa [all7_eq_all] using hwire
  refine ⟨frameBytes cfg (wide ch) (wide cmd) wire, (parsedOf cfg cmd ch wire).checksum, ?_, fun t => ?_⟩
  · rw [exec_frameBuild, frameBuild_seven ch cmd h7, bytesResult_ok]
  · rw [exec_frameParse, frameParse_frameBytes ch cmd h7, frameResult_ok]
    rfl

/-! The parts of a message (R90, R92, R175): without the delimiters it is `m.tail.dropLast`, and that without the checksum is
`m.tail.dropLast.dropLast`. -/

theorem slice_sub_one (m : Bytes) (i : Nat) : slice m i (m.length - 1) = (m.drop i).dropLast := by
  rw [slice, List.dropLast_eq_take, List.length_drop]
  congr 1
  omega

theorem slice_sub_two (m : Bytes) (i : Nat) : slice m i (m.length - 2) = (m.drop i).dropLast.dropLast := by
  rw [slice, List.dropLast_eq_take, List.length_dropLast, List.dropLast_eq_take, List.length_drop, List.take_take]
  congr 1
  omega

theorem byteAt_zero_eq_iff {m : Bytes} (h : m ≠ []) (b : Byte) : byteAt m 0 = b ↔ m.head? = some b := by
  cases m with
  | nil => exact absurd rfl h
  | cons x xs => simp [byteAt]

theorem byteAt_last_eq_iff {m : Bytes} (h : m ≠ []) (b : Byte) : byteAt m (m.length - 1) = b ↔ m.getLast? = some b := by
  have hlast : m.length - 1 < m.length := Nat.sub_one_lt (List.length_pos_of_ne_nil h).ne'
  rw [byteAt, List.getLast?_eq_getElem?, List.getD_eq_getElem _ _ hlast, List.getElem?_eq_getElem hlast, Option.some_inj]

/-- An index between the delimiters. -/
theorem byteAt_inner {m : Bytes} {i : Nat} (h : i + 2 < m.length) : byteAt m (i + 1) = m.tail.dropLast.getD i 0 := by
  have hinner : i < m.tail.dropLast.length := by simp; omega
  rw [byteAt, List.getD_eq_getElem _ _ (by omega), List.getD_eq_getElem _ _ hinner]
  simp

theorem getLastD_eq_getD (xs : Bytes) (b : Byte) : xs.getLastD b = xs.getD (xs.length - 1) b := by
  rw [List.getLastD_eq_getLast?, List.getLast?_eq_getElem?, List.getD_eq_getElem?_getD]

/-- R92: the checksum is the last byte between the delimiters. -/
theorem byteAt_checksum {m : Bytes} (h : 3 ≤ m.length) : byteAt m (m.length - 2) = m.tail.dropLast.getLastD 0 := by
  obtain ⟨n, hn⟩ : ∃ n, m.length = n + 3 := ⟨m.length - 3, by omega⟩
  have hindex : m.length - 2 = n + 1 := by omega
  have hlast : m.tail.dropLast.length - 1 = n := by simp; omega
  rw [hindex, byteAt_inner (by omega), getLastD_eq_getD, hlast]

/-- R92: the indices 1 to `L - 3`. -/
theorem requiredChecksum_eq (m : Bytes) : requiredChecksum cfg m = cksum m.tail.dropLast.dropLast := by
  rw [requiredChecksum, cfg_cksumFirst, slice_sub_two, List.drop_one]

/-- R175: the payload is what follows the six other bytes of the body. -/
theorem drop_body (m : Bytes) : m.tail.dropLast.dropLast.drop 6 = (m.drop 7).dropLast.dropLast := by
  rw [← slice_sub_two, ← List.drop_one, ← slice_sub_two, slice, slice, List.drop_take, List.drop_drop, Nat.sub_sub]

/-! FRAME.PARSE (R175). -/

/-- Settles O13: FRAME.PARSE's tests one after another, each read from the parts of the message. -/
theorem frameParseTestsInOrder : Obligations.FrameParseTestsInOrder := by
  intro m s
  rw [exec_frameParse]
  by_cases hlen : m.length < 9
  · simp only [frameParse, hlen, true_or, if_true, frameResult_error]
  · have hne : m ≠ [] := by rintro rfl; exact hlen (by decide)
    have hbytes {i : Nat} (hi : i < 6) : byteAt m (i + 1) = m.tail.dropLast.getD i 0 := byteAt_inner (by omega)
    simp only [frameParse, ne_eq, byteAt_zero_eq_iff hne, byteAt_last_eq_iff hne, byteAt_checksum (m := m) (by omega),
      requiredChecksum_eq, slice_sub_one, slice_sub_two, List.drop_one, not_all7_eq_any, drop_body, cksum,
      hbytes, Nat.reduceLT, apply_ite frameResult, frameResult_ok, frameResult_error]

/-- R175: what a message that FRAME.PARSE accepts has passed, and its payload. -/
theorem frameParse_ok {m : Bytes} {p : ParsedFrame} (h : frameParse cfg m = .ok p) :
    9 ≤ m.length ∧ cksum m.tail.dropLast.dropLast = m.tail.dropLast.getLastD 0 ∧ p.wire = (m.drop 7).dropLast.dropLast := by
  unfold frameParse at h
  split at h
  · cases h
  · next hdelimited =>
    have hlen : 9 ≤ m.length := Nat.le_of_not_lt fun hlt => hdelimited (.inl hlt)
    split at h
    · cases h
    · split at h
      · cases h
      · next hsum =>
        cases h
        rw [ne_eq, not_not, requiredChecksum_eq, byteAt_checksum (by omega)] at hsum
        exact ⟨hlen, hsum, slice_sub_two m 7⟩

/-- R177 (4): the checksum cancels the exclusive or of the bytes before it. -/
theorem cksum_inner_of_frameParse_ok {m : Bytes} {p : ParsedFrame} (h : frameParse cfg m = .ok p) :
    cksum m.tail.dropLast = 0 := by
  obtain ⟨hlen, hsum, -⟩ := frameParse_ok h
  have hne : m.tail.dropLast ≠ [] := List.ne_nil_of_length_pos (by simp; omega)
  rw [← List.dropLast_append_getLast hne, cksum_append, hsum, List.getLastD_eq_getLast?, List.getLast?_eq_some_getLast hne]
  simp

/-- A change between the delimiters is a change of what stands between them. -/
theorem inner_set (m : Bytes) (i : Nat) (b : Byte) : (m.set (i + 1) b).tail.dropLast = m.tail.dropLast.set i b := by
  have htail : (m.set (i + 1) b).tail = m.tail.set i b := by cases m <;> rfl
  rw [htail, List.dropLast_eq_take, List.dropLast_eq_take, List.take_set, List.length_set]

/-- Settles O16: an accepted message has the exclusive or 0 between its delimiters, and the altered one has the difference there. -/
theorem frameParseDetectsOneAlteredByte : Obligations.FrameParseDetectsOneAlteredByte := by
  intro m p hp i b d hfirst hlast hb hd s
  rw [exec_frameParse]
  cases hq : frameParse cfg (m.set i (b ^^^ d)) with
  | error x => exact ⟨x, rfl⟩
  | ok q =>
    obtain ⟨hlen, -, -⟩ := frameParse_ok hp
    obtain ⟨j, rfl⟩ : ∃ j, i = j + 1 := ⟨i - 1, by omega⟩
    have hinner : m.tail.dropLast[j]? = some b := by
      rw [List.getElem?_dropLast, List.getElem?_tail, hb, if_pos (by simp; omega)]
    have hdiff : d = 0 := by
      have haltered := cksum_inner_of_frameParse_ok hq
      rw [inner_set, cksum_set_xor hinner, cksum_inner_of_frameParse_ok hp] at haltered
      exact BitVec.zero_xor.symm.trans haltered
    exact absurd hdiff hd

/-! FRAME.UNPACK (R176). -/

theorem frameUnpack_of_length_lt {m : Bytes} (h : m.length < 9) : frameUnpack cfg m = .error (cfg.shortUnpackError m) :=
  if_pos h

theorem frameUnpack_of_length_ge {m : Bytes} (h : 9 ≤ m.length) :
    frameUnpack cfg m = unpack cfg (m.drop 7).dropLast.dropLast := by
  rw [frameUnpack, if_neg (Nat.not_lt_of_le h), slice_sub_two]

/-- Settles O17: the slice is the message without seven bytes in front and two behind, and FRAME.PARSE's payload is the same slice. -/
theorem frameUnpackReadsThePayloadSlice : Obligations.FrameUnpackReadsThePayloadSlice := by
  refine ⟨fun m s hlen => ?_, fun m p hp => ?_, fun m s hlen => ⟨cfg.shortUnpackError m, ?_⟩⟩
  · rw [exec_frameUnpack, frameUnpack_of_length_ge hlen]
  · obtain ⟨-, -, hwire⟩ := frameParse_ok hp
    exact hwire.symm
  · rw [exec_frameUnpack, frameUnpack_of_length_lt hlen, bytesResult_error]

/-- R177 (2). -/
theorem frameUnpack_frameBytes (ch cmd : Byte) (raw : Bytes) :
    frameUnpack cfg (frameBytes cfg ch cmd (pack cfg raw)) = .ok raw := by
  have hbefore : (frameBytes cfg ch cmd (pack cfg raw)).length - 2 = (pack cfg raw).length + 7 := by simp
  rw [frameUnpack_of_length_ge (by simp), ← slice_sub_two, hbefore, slice_frameBytes_wire, unpack_pack]

/-- Settles O15: the payload FRAME.BUILDP frames is PACK's, and UNPACK reads that back. -/
theorem frameUnpackInvertsBuildPacked : Obligations.FrameUnpackInvertsBuildPacked := by
  intro ch cmd raw s
  refine ⟨frameBytes cfg (wide ch) (wide cmd) (pack cfg raw), ?_, fun t => ?_⟩
  · rw [exec_frameBuildP, frameBuildP_seven, bytesResult_ok]
  · rw [exec_frameUnpack, frameUnpack_frameBytes, bytesResult_ok]

end Sys2Proof.Machine
end

section
/-! PROOFS. The family of spec/43_session_handshake.md. What one instruction can do to the port and to the wire is said once, in
`exec_portEffect`; RX is the row that its message decodes to, by `exec_inboundRow`; each handler on an open port is one equation
(`OpenInstance.handleStatus_feed` and the others), under every configuration with the machine's codec and requests, so that the rows and
the whole handshake are read off the same equations. -/

namespace Sys2Proof.Machine

/-! What may leave the block (R201, R202). -/

/-- Nothing in the list is transmitted. -/
def Silent (os : List Output) : Prop :=
  ∀ m : Bytes, Output.tx m ∉ os

theorem silent_nil : Silent [] :=
  fun _ => List.not_mem_nil

theorem silent_singleton {o : Output} (h : ∀ m, o ≠ .tx m) : Silent [o] :=
  fun m hm => h m (List.mem_singleton.mp hm).symm

theorem transmitsFrames_of_silent {os : List Output} (h : Silent os) : TransmitsFrames os :=
  fun m hm => absurd hm (h m)

theorem TransmitsFrames.append {xs ys : List Output} (hx : TransmitsFrames xs) (hy : TransmitsFrames ys) :
    TransmitsFrames (xs ++ ys) :=
  fun m hm => (List.mem_append.mp hm).elim (hx m) (hy m)

theorem transmitsFrames_enquiry : TransmitsFrames [.tx cfg.enquiryFrame] :=
  fun _ hm => .inl (Output.tx.inj (List.mem_singleton.mp hm))

/-- R98, R177: what Send transmits is a frame that FRAME.PARSE accepts with the device's ids. -/
theorem transmitsFrames_frame (ch cmd : Seven) (raw : Bytes) :
    TransmitsFrames [.tx (frameBytes cfg (wide ch) (wide cmd) (pack cfg raw))] := by
  intro m hm
  obtain rfl := Output.tx.inj (List.mem_singleton.mp hm)
  exact .inr ⟨_, frameParse_frameBytes ch cmd (all7_pack raw), forThisDevice_parsedOf cmd ch _⟩

/-- R202: a lost connection is notified before the enquiry. -/
theorem silent_disconnected (s : State) : Silent (if s.connected then [.notify .disconnected] else []) := by
  split
  · exact silent_singleton nofun
  · exact silent_nil

theorem transmitsFrames_resync (s : State) :
    TransmitsFrames ((if s.connected then [.notify .disconnected] else []) ++ [.tx cfg.enquiryFrame]) :=
  (transmitsFrames_of_silent (silent_disconnected s)).append transmitsFrames_enquiry

/-- From `s` the block runs to `t`, where the port is open, and what it transmits on the way are the enquiry and frames. -/
structure OpenRun (s t : State) : Prop where
  portOpen : t.portOpen = true
  frames : TransmitsFrames s.outputs → TransmitsFrames t.outputs

/-- From `s` to `t` nothing is transmitted, and a closed port stays idle. -/
structure SilentRun (s t : State) : Prop where
  idle : ClosedIdle s → ClosedIdle t
  silent : ∃ emitted : List Output, t.outputs = s.outputs ++ emitted ∧ Silent emitted

/-- What the instruction `i` can do to the port and to the wire on the way from `s` to `t`. -/
inductive PortEffect (i : Instr) (s t : State) : Prop
  | runs (hi : s.portOpen = true ∨ i = .portOpen) (h : OpenRun s t)
  | silent (h : SilentRun s t)
  | enquires (hi : i = .txEnquiry) (h : t = sendEnquiry cfg s)
  | resyncs (hi : i = .fullResync) (h : t = fullResync cfg s)

/-! On an open port. As for `KeepsLink`, each lemma extends a run. -/

namespace OpenRun

variable {s t u : State}

theorem refl (ho : s.portOpen = true) : OpenRun s s :=
  ⟨ho, id⟩

/-- Writing registers other than `portOpen` transmits nothing. -/
theorem of_eq (h : OpenRun s t) (hp : u.portOpen = t.portOpen) (ho : u.outputs = t.outputs) : OpenRun s u :=
  ⟨hp ▸ h.portOpen, ho ▸ h.frames⟩

theorem append (h : OpenRun s t) {os : List Output} (hos : TransmitsFrames os) (hp : u.portOpen = t.portOpen)
    (ho : u.outputs = t.outputs ++ os) : OpenRun s u :=
  ⟨hp ▸ h.portOpen, fun hs => ho ▸ (h.frames hs).append hos⟩

theorem feed (ho : s.portOpen = true) : OpenRun s s.feed :=
  (refl ho).of_eq rfl rfl

/-- What is emitted is no transmitted message. -/
theorem emit (h : OpenRun s t) {o : Output} (ho : ∀ m, o ≠ .tx m) : OpenRun s (t.emit o) :=
  h.append (transmitsFrames_of_silent (silent_singleton ho)) rfl rfl

theorem send (h : OpenRun s t) (cmd : Seven) (raw : Bytes) : OpenRun s (send cfg cmd raw t) := by
  refine h.append (transmitsFrames_frame t.channel cmd raw) (send_portOpen ..) ?_
  rw [send_outputs, if_pos h.portOpen]

/-- A handler writes registers, and then sends. -/
theorem send_of_eq (h : OpenRun s t) {cmd : Seven} {raw : Bytes} (hp : u.portOpen = t.portOpen)
    (ho : u.outputs = t.outputs) : OpenRun s (Machine.send cfg cmd raw u) :=
  (h.of_eq hp ho).send cmd raw

theorem fullResync (h : OpenRun s t) : OpenRun s (fullResync cfg t) :=
  h.append (transmitsFrames_resync t) (fullResync_portOpen ..) (by rw [fullResync_outputs, List.append_assoc])

theorem ite {p : Prop} [Decidable p] (ht : OpenRun s t) (hu : OpenRun s u) : OpenRun s (if p then t else u) := by
  split
  · exact ht
  · exact hu

theorem dispatch (h : OpenRun s t) (d : Dispatch) : OpenRun s (t.emit (.dispatch d)) :=
  h.emit nofun

theorem abort (h : OpenRun s t) (x : ErrorCode) : OpenRun s (abort cfg x t) :=
  have cleared : OpenRun s { t with resyncing := false, uploadPhase := 0 } := h.of_eq rfl rfl
  cleared.emit nofun

/-- R318: what a handler does with its operands, or Abort. -/
theorem orAbort {α : Type} {r : Except ErrorCode α} {go : α → State} (h : OpenRun s t) (hgo : ∀ a, OpenRun s (go a)) :
    OpenRun s (orAbort cfg r t go) := by
  obtain ⟨a, -, e⟩ | ⟨x, -, e⟩ := orAbort_cases cfg r t go
  · exact e ▸ hgo a
  · exact e ▸ h.abort x

theorem enquiryAnswered (h : OpenRun s t) (p : ParsedFrame) : OpenRun s (enquiryAnswered cfg p t) :=
  have adopted : OpenRun s { t with channel := if cfg.channelLock = none then low7 p.midiChannel else t.channel } :=
    h.of_eq rfl rfl
  have noticed := adopted.ite (adopted.emit (o := .notify .connected) nofun)
  noticed.send_of_eq rfl rfl

theorem handleStatus (h : OpenRun s t) (p : ParsedFrame) : OpenRun s (handleStatus cfg p t) :=
  h.orAbort fun _ => .ite (h.send_of_eq rfl rfl) (h.of_eq rfl rfl)

theorem handleNames (h : OpenRun s t) (p : ParsedFrame) : OpenRun s (handleNames cfg p t) :=
  h.orAbort fun (bank, names) =>
    have stored : OpenRun s { t with userPatchNames := if bank = 0x01 then names else t.userPatchNames } := h.of_eq rfl rfl
    have notified := stored.emit (o := .notify (.patchNamesUpdated bank names)) nofun
    .ite (.ite (notified.send _ _) (notified.send _ _)) notified

theorem handleAmpcab (h : OpenRun s t) (p : ParsedFrame) : OpenRun s (handleAmpcab cfg p t) :=
  h.orAbort fun _ => .ite ((h.dispatch _).send _ _) (h.dispatch _)

theorem handleCurname (h : OpenRun s t) (p : ParsedFrame) : OpenRun s (handleCurname cfg p t) :=
  h.orAbort fun name =>
    have named : OpenRun s { t with currentPatch := { t.currentPatch with name := name } } := h.of_eq rfl rfl
    have notified := named.emit (o := .notify (.patchNameChanged name)) nofun
    .ite (notified.send _ _) notified

theorem handleDump (h : OpenRun s t) (p : ParsedFrame) : OpenRun s (handleDump cfg p t) := by
  refine h.orAbort fun raw => ?_
  have handedOver := h.dispatch (.patchDump raw)
  cases hw : cfg.patchDumpWalk raw with
  | ok => simpa only [hw] using handedOver
  | patternMismatch => simpa only [hw] using handedOver.abort _

theorem handleEnddump (h : OpenRun s t) (p : ParsedFrame) : OpenRun s (handleEnddump cfg p t) :=
  h.of_eq rfl rfl

theorem handleParam (h : OpenRun s t) (p : ParsedFrame) : OpenRun s (handleParam cfg p t) :=
  .ite (.send (h.orAbort fun _ => .ite (h.dispatch _) h) _ _) h

theorem handlePatchchg (h : OpenRun s t) (p : ParsedFrame) : OpenRun s (handlePatchchg cfg p t) :=
  h.orAbort fun _ => h.send_of_eq rfl rfl

/-- R252: the block is sent before the phase is written. -/
theorem handleAck (h : OpenRun s t) (p : ParsedFrame) : OpenRun s (handleAck cfg p t) := by
  obtain ⟨-, -, -, -, e⟩ | ⟨-, -, e⟩ | ⟨x, -, e⟩ := handleAck_cases cfg p t
  · rw [e]; exact (h.send _ _).of_eq rfl rfl
  · rw [e]; exact h
  · rw [e]; exact h.abort x

/-- R212: whichever handler the command byte selects. -/
theorem handle (h : OpenRun s t) (p : ParsedFrame) : OpenRun s (handle cfg p t) := by
  unfold Machine.handle
  cases inCommand p.commandCode with
  | none => exact h.abort _
  | some k =>
    cases k with
    | enqack1 | enqack2 => exact h.enquiryAnswered p
    | status => exact h.handleStatus p
    | ampcab => exact h.handleAmpcab p
    | names => exact h.handleNames p
    | curname => exact h.handleCurname p
    | enddump => exact h.handleEnddump p
    | dump => exact h.handleDump p
    | param => exact h.handleParam p
    | patchchg => exact h.handlePatchchg p
    | ack => exact h.handleAck p
    | nak => exact h.abort _
    | ampcabReq | x0A | namesReq | curnameReq | expr | x28 | custom | x2E => exact h.dispatch _

theorem rx (ho : s.portOpen = true) (m : Bytes) : OpenRun s (rx cfg m s) := by
  obtain ⟨-, e⟩ | ⟨-, -, e⟩ | ⟨-, -, -, e⟩ | ⟨x, -, -, -, e⟩ | ⟨-, -, -, -, -, e⟩ | ⟨p, -, -, -, -, e⟩ :=
    rx_cases cfg m s
  case inl => rw [e]; exact refl ho
  case inr.inr.inl => rw [e]; exact (feed ho).emit nofun
  case inr.inr.inr.inr.inr => rw [e]; exact (feed ho).handle p
  all_goals rw [e]; exact (refl ho).emit nofun

theorem uploadStart (ho : s.portOpen = true) (b1 b2 b3 b4 b5 b6 b7 b8 : HostBlock) :
    OpenRun s (uploadStart cfg b1 b2 b3 b4 b5 b6 b7 b8 s) := by
  obtain ⟨-, -, e⟩ | e := uploadStart_cases cfg b1 b2 b3 b4 b5 b6 b7 b8 s
  · have latched : OpenRun s { s with uploadBlocks :=
        ⟨latch b1, latch b2, latch b3, latch b4, latch b5, latch b6, latch b7, latch b8⟩ } := (refl ho).of_eq rfl rfl
    rw [e]; exact (latched.send _ _).of_eq rfl rfl
  · rw [e]; exact (refl ho).emit nofun

end OpenRun

/-! With nothing transmitted. -/

namespace SilentRun

variable {s : State}

theorem refl (s : State) : SilentRun s s :=
  ⟨id, [], (List.append_nil _).symm, silent_nil⟩

theorem emit (s : State) {o : Output} (ho : ∀ m, o ≠ .tx m) : SilentRun s (s.emit o) :=
  ⟨fun h => ⟨h.idle⟩, [o], rfl, silent_singleton ho⟩

/-- R11: a codec operation's result is in no register. -/
theorem give (s : State) (r : Result) : SilentRun s (s.give r) :=
  ⟨fun h => ⟨h.idle⟩, [], (List.append_nil _).symm, silent_nil⟩

theorem abort (x : ErrorCode) (s : State) : SilentRun s (abort cfg x s) where
  idle h := ⟨fun hc => by
    obtain ⟨hconn, -, -, hbite⟩ := h.idle hc
    exact ⟨hconn, rfl, rfl, hbite⟩⟩
  silent := ⟨_, abort_outputs cfg x s, silent_singleton nofun⟩

theorem closePort (s : State) : SilentRun s (closePort s) :=
  ⟨fun _ => ⟨fun _ => ⟨rfl, rfl, rfl, rfl⟩⟩, _, noticeDisconnect_outputs s, silent_disconnected s⟩

theorem resetSession (s : State) : SilentRun s (resetSession cfg s) :=
  ⟨fun _ => ⟨fun _ => ⟨rfl, rfl, rfl, rfl⟩⟩, [], (List.append_nil _).symm, silent_nil⟩

/-- R201. -/
theorem send_closed (hc : s.portOpen = false) (cmd : Seven) (raw : Bytes) : SilentRun s (send cfg cmd raw s) := by
  rw [send_eq, if_neg (by simp [hc])]
  exact emit s nofun

/-- R250: an upload starts on an open port only. -/
theorem uploadStart_closed (hc : s.portOpen = false) (b1 b2 b3 b4 b5 b6 b7 b8 : HostBlock) :
    SilentRun s (uploadStart cfg b1 b2 b3 b4 b5 b6 b7 b8 s) := by
  have hrefused : ¬ (uploadMayStart s && hostBlocksOk [b1, b2, b3, b4, b5, b6, b7, b8]) = true := by
    simp [uploadMayStart, hc]
  rw [uploadStart, if_neg hrefused]
  exact emit s nofun

end SilentRun

theorem rx_closed {s : State} (hc : s.portOpen = false) (m : Bytes) : rx cfg m s = s :=
  if_neg (by simp [hc])

namespace PortEffect

variable {i : Instr} {s t u : State}

/-- What is conditional on the port. -/
theorem ofPort (hopen : s.portOpen = true → OpenRun s t) (hclosed : s.portOpen = false → SilentRun s t) :
    PortEffect i s t := by
  cases ho : s.portOpen with
  | true => exact .runs (.inl ho) (hopen ho)
  | false => exact .silent (hclosed ho)

theorem ite {p : Prop} [Decidable p] (ht : PortEffect i s t) (hu : PortEffect i s u) :
    PortEffect i s (if p then t else u) := by
  split
  · exact ht
  · exact hu

/-- R201. -/
theorem send (cmd : Seven) (raw : Bytes) : PortEffect i s (send cfg cmd raw s) :=
  ofPort (fun ho => (OpenRun.refl ho).send cmd raw) fun hc => .send_closed hc cmd raw

/-- R210: a closed port delivers nothing. -/
theorem ite_portOpen (h : s.portOpen = true → OpenRun s t) : PortEffect i s (if s.portOpen then t else s) :=
  ofPort (fun ho => if_pos ho ▸ h ho) fun hc => by rw [if_neg (by simp [hc])]; exact .refl s

theorem rx (m : Bytes) : PortEffect i s (rx cfg m s) :=
  ofPort (fun ho => .rx ho m) fun hc => (rx_closed hc m).symm ▸ .refl s

/-- R205. -/
theorem hostResync : PortEffect i s (hostResync cfg s) := by
  unfold Machine.hostResync
  split
  case isTrue ho => exact .runs (.inl ho) (OpenRun.refl ho).fullResync
  case isFalse => exact .silent (.emit s nofun)

/-- R270. -/
theorem wdTick : PortEffect i s (wdTick cfg s) :=
  ite_portOpen fun ho => .ite (OpenRun.refl ho).fullResync ((OpenRun.refl ho).send_of_eq rfl rfl)

end PortEffect

/-- Every instruction answers a next state, and does one of four things to the port and the wire. -/
theorem exec_portEffect (i : Instr) (s : State) : ∃ t : State, exec i s = .next t ∧ PortEffect i s t := by
  have next : ∀ {t : State}, PortEffect i s t → ∃ t' : State, (.next t : Outcome) = .next t' ∧ PortEffect i s t' :=
    fun h => ⟨_, rfl, h⟩
  have self : PortEffect i s s := .silent (.refl s)
  have log : ∀ l, PortEffect i s (s.emit (.log l)) := fun l => .silent (.emit s nofun)
  have frame : ∀ {t}, (s.portOpen = true → OpenRun s t) →
      ∃ t' : State, (.next (if s.portOpen then t else s) : Outcome) = .next t' ∧ PortEffect i s t' :=
    fun h => next (.ite_portOpen h)
  cases i with
  | fullResync => exact next (.resyncs rfl rfl)
  | txEnquiry => exact next (.enquires rfl rfl)
  | reset => exact next (.silent (.resetSession s))
  | portOpen => exact next (.runs (.inr rfl) (OpenRun.fullResync ⟨rfl, id⟩))
  | portClose => exact next (.silent (.closePort s))
  | hostResync => exact next .hostResync
  | hostSend cmd raw => exact next (.ite (.send _ _) (log _))
  | abort x => exact next (.silent (.abort x s))
  | uploadStart b1 b2 b3 b4 b5 b6 b7 b8 =>
    exact next (.ofPort (.uploadStart · b1 b2 b3 b4 b5 b6 b7 b8) (.uploadStart_closed · b1 b2 b3 b4 b5 b6 b7 b8))
  | wdTick => exact next .wdTick
  | rx m => exact next (.rx m)
  | rxEnqack1 | rxEnqack2 => exact frame fun ho => (OpenRun.feed ho).enquiryAnswered _
  | rxStatus => exact frame fun ho => (OpenRun.feed ho).handleStatus _
  | rxAmpcab => exact frame fun ho => (OpenRun.feed ho).handleAmpcab _
  | rxNames => exact frame fun ho => (OpenRun.feed ho).handleNames _
  | rxCurname => exact frame fun ho => (OpenRun.feed ho).handleCurname _
  | rxEnddump => exact frame fun ho => (OpenRun.feed ho).handleEnddump _
  | rxDump => exact frame fun ho => (OpenRun.feed ho).handleDump _
  | rxParam => exact frame fun ho => (OpenRun.feed ho).handleParam _
  | rxPatchchg => exact frame fun ho => (OpenRun.feed ho).handlePatchchg _
  | rxAck => exact frame fun ho => (OpenRun.feed ho).handleAck _
  | rxNak | rxUnrec => exact frame fun ho => (OpenRun.feed ho).abort _
  | rxPassthru | rxAmpcabReq | rxX0A | rxNamesReq | rxCurnameReq | rxExpr | rxX28 | rxCustom | rxX2E =>
    exact frame fun ho => (OpenRun.feed ho).dispatch _
  | txUpload block => exact next (.ite (.send _ _) self)
  | send | txStatusReq | txNamesReq | txAmpcabReq | txCurnameReq | txKeepalive | txAck | txHost => exact next (.send _ _)
  | varintV1 | varintV2 | varintV3 | varintV4 | varintIllegal0 | varintIllegalN | packgroup | varintEnc | varintDec | pack | unpack
  | cksum | frameBuild | frameBuildP | frameParse | frameUnpack | rawOf => exact next (.silent (.give s _))

theorem portEffect_of_exec {i : Instr} {s t : State} (h : exec i s = .next t) : PortEffect i s t := by
  obtain ⟨t', ht', effect⟩ := exec_portEffect i s
  cases ht'.symm.trans h
  exact effect

/-- Settles O50: what leaves the port open has nothing to show, what is silent keeps a closed port idle, and the enquiry writes no
register. -/
theorem closedPortStaysIdle : Obligations.ClosedPortStaysIdle := by
  intro i s t hidle hi hexec
  cases portEffect_of_exec hexec with
  | runs _ h => exact ⟨fun hc => absurd h.portOpen (by simp [hc])⟩
  | silent h => exact h.idle hidle
  | enquires _ h => subst h; exact ⟨hidle.idle⟩
  | resyncs hresync _ => exact absurd hresync hi

theorem SilentRun.frames {s t : State} (h : SilentRun s t) (hs : TransmitsFrames s.outputs) : TransmitsFrames t.outputs := by
  obtain ⟨emitted, happended, hsilent⟩ := h.silent
  exact happended ▸ hs.append (transmitsFrames_of_silent hsilent)

theorem PortEffect.frames {i : Instr} {s t : State} (h : PortEffect i s t) (hs : TransmitsFrames s.outputs) :
    TransmitsFrames t.outputs := by
  cases h with
  | runs _ h => exact h.frames hs
  | silent h => exact h.frames hs
  | enquires _ h => exact h ▸ hs.append transmitsFrames_enquiry
  | resyncs _ h =>
    rw [h, fullResync_outputs, List.append_assoc]
    exact hs.append (transmitsFrames_resync s)

/-- Settles O54: a step runs an instruction, and whatever that does to the port, it adds the enquiry and frames alone. -/
theorem everyTransmittedMessageIsAValidFrame : Obligations.EveryTransmittedMessageIsAValidFrame := by
  intro s t hs hstep
  obtain ⟨-, e⟩ | ⟨-, rest, i, -, -, e⟩ | ⟨-, -, _, -, -, e⟩ := step_cases s
  · cases e.symm.trans hstep
    exact hs
  · exact (portEffect_of_exec (s := { s with pending := rest }) (e.symm.trans hstep)).frames hs
  · cases e.symm.trans hstep

/-- Settles O55: the other effects on the port and the wire need an open port or are those of the instructions left out. -/
theorem closedPortTransmitsNothing : Obligations.ClosedPortTransmitsNothing := by
  intro i s t hc hopen hresync henquiry hexec
  cases portEffect_of_exec hexec with
  | runs hi _ => exact absurd (hi.resolve_right hopen) (by simp [hc])
  | silent h => exact h.silent
  | enquires hi _ => exact absurd hi henquiry
  | resyncs hi _ => exact absurd hi hresync

/-! The row that a received message decodes to (R210, R212). -/

theorem rx_accepted {c : Cfg} {m : Bytes} {p : ParsedFrame} {s : State} (ho : s.portOpen = true) (hm : m.head? = some 0xF0)
    (hp : frameParse c m = .ok p) (hd : forThisDevice c p = true) : rx c m s = handle c p s.feed := by
  obtain ⟨bs, rfl⟩ := List.head?_eq_some_iff.mp hm
  simp only [rx, ho, if_true, ne_eq, not_true_eq_false, if_false, hp, hd]

/-- R210: what the decoder reads from a message. -/
theorem decodeInbound_cases (m : Bytes) :
    decodeInbound m = .rx m ∨
    (∃ b bs, m = b :: bs ∧ b ≠ 0xF0 ∧ decodeInbound m = .rxPassthru m) ∨
    (∃ p, m.head? = some 0xF0 ∧ frameParse cfg m = .ok p ∧ forThisDevice cfg p = true ∧
      decodeInbound m = inboundRow (low7 p.commandCode) (low7 p.midiChannel) p.wire) := by
  cases m with
  | nil => exact .inl rfl
  | cons b bs =>
    by_cases hb : b = 0xF0
    · subst hb
      cases hp : frameParse cfg (0xF0 :: bs) with
      | error x => exact .inl (by simp only [decodeInbound, ne_eq, not_true_eq_false, if_false, hp])
      | ok p =>
        cases hd : forThisDevice cfg p with
        | false => exact .inl (by simp only [decodeInbound, ne_eq, not_true_eq_false, if_false, hp, hd, Bool.false_eq_true])
        | true => exact .inr (.inr ⟨p, rfl, rfl, hd, decodeInbound_accepted rfl hp hd⟩)
    · exact .inr (.inl ⟨b, bs, rfl, hb, if_pos hb⟩)

/-- R102, R212: the row of a command code runs the handler that the code selects. -/
theorem exec_inboundRow (cmd ch : Seven) (wire : Bytes) (s : State) :
    exec (inboundRow cmd ch wire) s = .next (onFrame cfg cmd handle ch wire s) := by
  cases hk : inCommand (wide cmd) with
  | none =>
    rw [inboundRow_unrec (Option.isNone_iff_eq_none.mpr hk)]
    change Host.Outcome.next (onFrame cfg cmd handleUnrec ch wire s) = _
    simp only [onFrame, handle, parsedOf_commandCode, hk]
  | some k =>
    obtain rfl : cmd = inCode k := by simpa using congrArg low7 (eq_wide_inCode hk)
    cases k <;> rfl

/-- R318: a handler reads the command code, the channel and the wire payload of its frame, and no more. -/
theorem handle_congr {p q : ParsedFrame} (hcode : p.commandCode = q.commandCode) (hchan : p.midiChannel = q.midiChannel)
    (hwire : p.wire = q.wire) (s : State) : handle cfg p s = handle cfg q s := by
  cases p
  cases q
  cases hcode
  cases hchan
  cases hwire
  rfl

theorem is7_getD {bs : Bytes} (h : all7 bs = true) (i : Nat) : is7 (bs.getD i 0) = true := by
  by_cases hi : i < bs.length
  · rw [List.getD_eq_getElem _ _ hi]
    exact is7_getElem h hi
  · rw [List.getD_eq_default _ _ (Nat.le_of_not_lt hi)]
    rfl

/-- R175: the command code and the channel of an accepted message are 7-bit values. -/
theorem is7_of_frameParse_ok {m : Bytes} {p : ParsedFrame} (h : frameParse cfg m = .ok p) :
    is7 p.commandCode = true ∧ is7 p.midiChannel = true := by
  obtain ⟨hlen, -, -⟩ := frameParse_ok h
  unfold frameParse at h
  split at h
  · cases h
  · split at h
    · cases h
    · next hinner =>
      have h7 : all7 m.tail.dropLast = true := by simpa [slice_sub_one] using hinner
      split at h
      · cases h
      · cases h
        simp only [byteAt_inner (m := m) (i := 5) (by omega), byteAt_inner (m := m) (i := 3) (by omega), is7_getD h7,
          and_self]

/-- R211: RX of a message that does not begin with `0xF0`. -/
theorem rx_nonSysex {b : Byte} {bs : Bytes} (hb : b ≠ 0xF0) (s : State) :
    rx cfg (b :: bs) s = if s.portOpen then rxNonSysex (b :: bs) s else s := by
  rw [rx, if_pos hb]

/-- Settles O32: the handler that an accepted message's command selects is that of the row, and both test the port. -/
theorem receiveRunsTheRowTheMessageDecodesTo : Obligations.ReceiveRunsTheRowTheMessageDecodesTo := by
  intro m s
  refine ⟨rfl, ?_⟩
  obtain e | ⟨b, bs, rfl, hb, e⟩ | ⟨p, hm, hp, hd, e⟩ := decodeInbound_cases m
  · rw [e]
  · rw [e]
    exact congrArg Host.Outcome.next (rx_nonSysex hb s)
  · rw [e, exec_inboundRow]
    refine congrArg Host.Outcome.next ?_
    cases ho : s.portOpen with
    | false => rw [rx_closed ho, onFrame_closed _ _ _ _ _ _ ho]
    | true =>
      obtain ⟨hcode, hchan⟩ := is7_of_frameParse_ok hp
      rw [rx_accepted ho hm hp hd, onFrame_open _ _ _ _ _ _ ho]
      exact handle_congr (q := parsedOf cfg _ _ _) (wide_low7 _ hcode).symm (wide_low7 _ hchan).symm rfl _

/-! The events and procedures that need no handler (R201 to R206, R211). -/

/-- Settles O19: Send, and TX.HOST through it, emits its one output. -/
theorem sendTransmitsOneFrameOrLogs : Obligations.SendTransmitsOneFrameOrLogs := by
  intro cmd raw s
  have hsend : send cfg cmd raw s = s.sendOrLog (gnxfOf s.channel cmd raw) := send_eq_sendOrLog cmd raw s
  exact ⟨congrArg Host.Outcome.next hsend, congrArg Host.Outcome.next hsend⟩

/-- R202: FullResync in full. -/
theorem fullResync_eq (c : Cfg) (s : State) : fullResync c s = { s with
    connected := false
    resyncing := true
    uploadPhase := 0
    biteCount := 0
    outputs := s.outputs ++ (if s.connected then [.notify .disconnected] else []) ++ [.tx c.enquiryFrame] } := by
  cases hconn : s.connected <;> simp [fullResync, noticeDisconnect, sendEnquiry, State.emit, hconn]

/-- Settles O20: the row is the procedure. -/
theorem fullResyncRestartsTheHandshake : Obligations.FullResyncRestartsTheHandshake :=
  fun s => congrArg Host.Outcome.next (fullResync_eq cfg s)

/-- Settles O23: FullResync with the port set open. -/
theorem portOpenStartsTheHandshake : Obligations.PortOpenStartsTheHandshake := by
  intro s
  have hexec := congrArg (Host.Outcome.next (φ := Fault) (ρ := Refusal)) (fullResync_eq cfg { s with portOpen := true })
  refine ⟨hexec, fun t ht => ?_⟩
  cases hexec.symm.trans ht
  rfl

/-! PORT.OPEN, one register after another (R203). -/

@[simp] theorem openPort_portOpen (c : Cfg) (s : State) : (openPort c s).portOpen = true :=
  fullResync_portOpen c { s with portOpen := true }

@[simp] theorem openPort_connected (c : Cfg) (s : State) : (openPort c s).connected = false :=
  fullResync_connected c { s with portOpen := true }

@[simp] theorem openPort_resyncing (c : Cfg) (s : State) : (openPort c s).resyncing = true :=
  fullResync_resyncing c { s with portOpen := true }

@[simp] theorem openPort_uploadPhase (c : Cfg) (s : State) : (openPort c s).uploadPhase = 0 :=
  fullResync_uploadPhase c { s with portOpen := true }

@[simp] theorem openPort_channel (c : Cfg) (s : State) : (openPort c s).channel = s.channel :=
  fullResync_channel c { s with portOpen := true }

@[simp] theorem openPort_currentPatch (c : Cfg) (s : State) : (openPort c s).currentPatch = s.currentPatch :=
  fullResync_currentPatch c { s with portOpen := true }

@[simp] theorem openPort_userPatchNames (c : Cfg) (s : State) : (openPort c s).userPatchNames = s.userPatchNames :=
  fullResync_userPatchNames c { s with portOpen := true }

/-- R204: PORT.CLOSE in full. -/
theorem closePort_eq (s : State) : closePort s = { s with
    portOpen := false
    connected := false
    resyncing := false
    uploadPhase := 0
    biteCount := 0
    outputs := s.outputs ++ (if s.connected then [.notify .disconnected] else []) } := by
  cases hconn : s.connected <;> simp [closePort, noticeDisconnect, State.emit, hconn]

/-- Settles O24: the state that PORT.CLOSE leaves has its port closed, and there WD.TICK and RX do nothing. -/
theorem portCloseClearsTheControlRegisters : Obligations.PortCloseClearsTheControlRegisters := by
  intro s
  refine ⟨congrArg Host.Outcome.next (closePort_eq s), fun t ht => ?_⟩
  have hclosed : t.portOpen = false := by
    cases ht
    rfl
  exact ⟨label_of_closed hclosed, congrArg Host.Outcome.next (if_neg (by simp [hclosed])),
    fun m => congrArg Host.Outcome.next (rx_closed hclosed m)⟩

/-- Settles O25: the port test, and FullResync behind it. -/
theorem hostResyncNeedsAnOpenPort : Obligations.HostResyncNeedsAnOpenPort := by
  intro s
  rw [← fullResync_eq]
  rfl

/-- Settles O18: RawOf turns either answer of UNPACK into its own. -/
theorem rawOfTurnsPackMalformedIntoPayloadMalformed : Obligations.RawOfTurnsPackMalformedIntoPayloadMalformed := by
  intro p s
  have hexec {r : Except ErrorCode Bytes} (h : rawOf cfg p = r) :
      exec (.rawOf p) s = .next { s with returned := some (bytesResult r) } := by
    rw [← h]
    rfl
  exact ⟨fun raw hraw => hexec (rawOf_ok hraw), fun x hx => hexec (rawOf_error hx)⟩

/-- Settles O31: RX of such a message does what RX.PASSTHRU does. -/
theorem nonSysexMessagePassesThrough : Obligations.NonSysexMessagePassesThrough := by
  intro b bs s hb
  refine ⟨fun ho => ?_, fun hc => congrArg Host.Outcome.next (if_neg (by simp [hc]))⟩
  have hpass : (if s.portOpen then rxNonSysex (b :: bs) s else s) = rxNonSysex (b :: bs) s := if_pos ho
  exact ⟨congrArg Host.Outcome.next ((rx_nonSysex hb s).trans hpass), congrArg Host.Outcome.next hpass⟩

/-- Settles O57: a step on each of its two queues. -/
theorem stepRunsTheDecodedItem : Obligations.StepRunsTheDecodedItem := by
  refine ⟨fun s item rest i hqueue hdecode => ?_, fun s hempty => ?_⟩
  · simp only [step, hqueue, hdecode]
  · simp only [step, hempty]

/-- Settles O46: every row is its handler behind the front end. -/
theorem closedPortDeliversNoFrame : Obligations.ClosedPortDeliversNoFrame := by
  intro cmd ch wire s hc i hi
  have hrow (code : Seven) (h : Cfg → ParsedFrame → State → State) : (.next (onFrame cfg code h ch wire s) : Outcome) = .next s :=
    congrArg _ (onFrame_closed _ _ _ _ _ _ hc)
  fin_cases hi <;> exact hrow _ _

/-! A configuration that has the machine's codec and requests, whatever its OPEN parameters (R6, R233). -/

/-- In what the codec and the handshake's requests read, `c` is the machine's configuration. -/
structure OpenInstance (c : Cfg) : Prop where
  mnfrId : c.mnfrId = cfg.mnfrId
  deviceId : c.deviceId = cfg.deviceId
  group : c.group = cfg.group
  cksumFirst : c.cksumFirst = cfg.cksumFirst
  partialAlign : c.partialAlign = cfg.partialAlign
  statusReqRaw : c.statusReqRaw = cfg.statusReqRaw
  namesReqRaw : c.namesReqRaw = cfg.namesReqRaw
  ampcabReqRaw : c.ampcabReqRaw = cfg.ampcabReqRaw
  curnameReqRaw : c.curnameReqRaw = cfg.curnameReqRaw

theorem openInstance_cfg : OpenInstance cfg :=
  ⟨rfl, rfl, rfl, rfl, rfl, rfl, rfl, rfl, rfl⟩

namespace OpenInstance

variable {c : Cfg}

theorem pack_eq (hc : OpenInstance c) (data : Bytes) : pack c data = pack cfg data := by
  have hgroups (n : Nat) (data : Bytes) : packGroups c n data = packGroups cfg n data := by
    induction n generalizing data with
    | zero => rfl
    | succ n ih =>
      cases data with
      | nil => rfl
      | cons b bs => simp only [packGroups, hc.group, hc.partialAlign, ih]
  exact hgroups data.length data

theorem unpack_eq (hc : OpenInstance c) (w : Bytes) : unpack c w = unpack cfg w := by
  have hgroups (n i : Nat) (w : Bytes) : unpackGroups c n i w = unpackGroups cfg n i w := by
    induction n generalizing i w with
    | zero => rfl
    | succ n ih =>
      cases w with
      | nil => rfl
      | cons h rest => simp only [unpackGroups, hc.group, hc.partialAlign, ih]
  exact hgroups w.length 0 w

theorem frameBody_eq (hc : OpenInstance c) (ch cmd : Byte) (wire : Bytes) : frameBody c ch cmd wire = frameBody cfg ch cmd wire := by
  rw [frameBody, hc.mnfrId, hc.deviceId]
  rfl

theorem frameBytes_eq (hc : OpenInstance c) (ch cmd : Byte) (wire : Bytes) :
    frameBytes c ch cmd wire = frameBytes cfg ch cmd wire := by
  rw [frameBytes, hc.frameBody_eq, hc.cksumFirst]
  rfl

theorem requiredChecksum_eq (hc : OpenInstance c) (m : Bytes) : requiredChecksum c m = requiredChecksum cfg m := by
  rw [requiredChecksum, hc.cksumFirst]
  rfl

theorem frameParse_eq (hc : OpenInstance c) (m : Bytes) : frameParse c m = frameParse cfg m := by
  rw [frameParse, hc.requiredChecksum_eq]
  rfl

theorem send_eq (hc : OpenInstance c) (cmd : Seven) (raw : Bytes) (s : State) : send c cmd raw s = send cfg cmd raw s := by
  have hbuild (ch code : Byte) : frameBuildP c ch code raw = frameBuildP cfg ch code raw := by
    rw [frameBuildP, frameBuild, hc.pack_eq, hc.frameBody_eq, hc.frameBytes_eq]
    rfl
  simp only [send, hbuild]

/-- R210, R212: a frame of the device reaches the handler of its command. -/
theorem rx_frame (hc : OpenInstance c) {s : State} (ho : s.portOpen = true) (ch cmd : Seven) {wire : Bytes}
    (hwire : all7 wire = true) : rx c (gnxfWire ch cmd wire) s = handle c (parsedOf cfg cmd ch wire) s.feed := by
  refine rx_accepted ho rfl ?_ ?_
  · rw [hc.frameParse_eq, gnxfWire_eq, frameParse_frameBytes ch cmd hwire]
  · rw [← forThisDevice_parsedOf cmd ch wire]
    simp only [forThisDevice, hc.mnfrId, hc.deviceId]

/-- R98: so does the frame of a packed payload. -/
theorem rx_packed (hc : OpenInstance c) {s : State} (ho : s.portOpen = true) (ch cmd : Seven) (raw : Bytes) :
    rx c (gnxfOf ch cmd raw) s = handle c (parsedOf cfg cmd ch (pack cfg raw)) s.feed :=
  hc.rx_frame ho ch cmd (all7_pack raw)

theorem rawOf_packed (hc : OpenInstance c) (cmd ch : Seven) (raw : Bytes) :
    rawOf c (parsedOf cfg cmd ch (pack cfg raw)) = .ok raw := by
  simp only [rawOf, parsedOf_wire, hc.unpack_eq, unpack_pack]

theorem openOperand_packed (hc : OpenInstance c) (cmd ch : Seven) {raw : Bytes} {α : Type} {parse : Bytes → Option α} {a : α}
    (ha : parse raw = some a) : openOperand c parse (parsedOf cfg cmd ch (pack cfg raw)) = .ok a := by
  simp only [openOperand, hc.rawOf_packed, ha]

theorem ampCabOperands_packed (hc : OpenInstance c) (cmd ch : Seven) {raw : Bytes} {amps cabs : List NameEntry} {pos pos' : Nat}
    (hamps : nameList (.payloadMalformed (wide cmd)) raw 0 = .ok (amps, pos))
    (hcabs : nameList (.payloadMalformed (wide cmd)) raw pos = .ok (cabs, pos')) :
    ampCabOperands c (parsedOf cfg cmd ch (pack cfg raw)) = .ok (amps, cabs) := by
  simp only [ampCabOperands, hc.rawOf_packed, parsedOf_commandCode, hamps, hcabs]

/-! The handshake's requests on an open port (R103, R201). -/

variable {s : State}

theorem txStatusReq_open (hc : OpenInstance c) (ho : s.portOpen = true) :
    txStatusReq c s = s.emit (.tx (gnxf s.channel [0x05, 0x00, 0x01] 0x42)) := by
  rw [txStatusReq, hc.send_eq, hc.statusReqRaw]
  exact (txStatusReq_eq s).trans (State.sendOrLog_open ho _)

theorem txNamesReq_factory_open (hc : OpenInstance c) (ho : s.portOpen = true) :
    txNamesReq c .factory s = s.emit (.tx (gnxf s.channel [0x12, 0x00, 0x00] 0x54)) := by
  rw [txNamesReq, hc.send_eq, Machine.namesReqRaw, hc.namesReqRaw]
  exact (txNamesReq_factory_eq s).trans (State.sendOrLog_open ho _)

theorem txNamesReq_user_open (hc : OpenInstance c) (ho : s.portOpen = true) :
    txNamesReq c .user s = s.emit (.tx (gnxf s.channel [0x12, 0x00, 0x01] 0x55)) := by
  rw [txNamesReq, hc.send_eq, Machine.namesReqRaw, hc.namesReqRaw]
  exact (txNamesReq_user_eq s).trans (State.sendOrLog_open ho _)

theorem txAmpcabReq_open (hc : OpenInstance c) (ho : s.portOpen = true) :
    txAmpcabReq c s = s.emit (.tx (gnxf s.channel [0x07] 0x41)) := by
  rw [txAmpcabReq, hc.send_eq, hc.ampcabReqRaw]
  exact (txAmpcabReq_eq s).trans (State.sendOrLog_open ho _)

theorem txCurnameReq_open (hc : OpenInstance c) (ho : s.portOpen = true) :
    txCurnameReq c s = s.emit (.tx (gnxf s.channel [0x20] 0x66)) := by
  rw [txCurnameReq, hc.send_eq, hc.curnameReqRaw]
  exact (txCurnameReq_eq s).trans (State.sendOrLog_open ho _)

theorem txAck_open (hc : OpenInstance c) (ho : s.portOpen = true) :
    txAck c s = s.emit (.tx (gnxf s.channel [0x7E, 0x00, 0x21] 0x19)) := by
  rw [txAck, hc.send_eq]
  exact (txAck_eq s).trans (State.sendOrLog_open ho _)

/-! What each handler makes of a frame on an open port (R213 to R222), before its payload is read. -/

theorem enquiryAnswered_feed (hc : OpenInstance c) (ho : s.portOpen = true) (p : ParsedFrame) :
    enquiryAnswered c p s.feed =
      let adopted := if c.channelLock = none then low7 p.midiChannel else s.channel
      { s with
        biteCount := 0
        channel := adopted
        connected := true
        outputs := s.outputs ++ (if s.connected then [] else [.notify .connected]) ++
          [.tx (gnxf adopted [0x05, 0x00, 0x01] 0x42)] } := by
  cases hconn : s.connected <;> simp [enquiryAnswered, hconn, hc.txStatusReq_open, ho, State.emit, State.feed]

theorem handleStatus_feed (hc : OpenInstance c) (ho : s.portOpen = true) (p : ParsedFrame) :
    handleStatus c p s.feed = orAbort c (openOperand c c.parseStatus p) s.feed fun (bank, number) => { s with
      biteCount := 0
      currentPatch := { s.currentPatch with bank := bank, number := number }
      outputs := s.outputs ++ (if s.resyncing then [.tx (gnxf s.channel [0x12, 0x00, 0x00] 0x54)] else []) } := by
  refine congrArg (orAbort c _ _) (funext fun (bank, number) => ?_)
  cases hresync : s.resyncing <;> simp [hresync, hc.txNamesReq_factory_open, ho, State.emit, State.feed]

theorem handleNames_feed (hc : OpenInstance c) (ho : s.portOpen = true) (p : ParsedFrame) :
    handleNames c p s.feed = orAbort c (openOperand c c.parseNames p) s.feed fun (bank, names) => { s with
      biteCount := 0
      userPatchNames := if bank = 0x01 then names else s.userPatchNames
      outputs := s.outputs ++ [.notify (.patchNamesUpdated bank names)] ++
        (if s.resyncing then
          (if bank = 0x00 then [.tx (gnxf s.channel [0x12, 0x00, 0x01] 0x55)] else [.tx (gnxf s.channel [0x07] 0x41)])
        else []) } := by
  refine congrArg (orAbort c _ _) (funext fun (bank, names) => ?_)
  cases hresync : s.resyncing with
  | false => simp [hresync, State.emit, State.feed]
  | true =>
    by_cases hbank : bank = 0#8
    · simp [hresync, hbank, hc.txNamesReq_user_open, ho, State.emit, State.feed]
    · simp [hresync, hbank, hc.txAmpcabReq_open, ho, State.emit, State.feed]

theorem handleAmpcab_feed (hc : OpenInstance c) (ho : s.portOpen = true) (p : ParsedFrame) :
    handleAmpcab c p s.feed = orAbort c (ampCabOperands c p) s.feed fun (amps, cabs) => { s with
      biteCount := 0
      outputs := s.outputs ++ [.dispatch (.ampCabNames amps cabs)] ++
        (if s.resyncing then [.tx (gnxf s.channel [0x20] 0x66)] else []) } := by
  refine congrArg (orAbort c _ _) (funext fun (amps, cabs) => ?_)
  cases hresync : s.resyncing <;> simp [hresync, hc.txCurnameReq_open, ho, State.emit, State.feed]

theorem handleCurname_feed (hc : OpenInstance c) (ho : s.portOpen = true) (p : ParsedFrame) :
    handleCurname c p s.feed = orAbort c (openOperand c c.parsePatchName p) s.feed fun name => { s with
      biteCount := 0
      currentPatch := { s.currentPatch with name := name }
      outputs := s.outputs ++ [.notify (.patchNameChanged name)] ++
        (if s.resyncing then [.tx (gnxf s.channel [0x7E, 0x00, 0x21] 0x19)] else []) } := by
  refine congrArg (orAbort c _ _) (funext fun name => ?_)
  cases hresync : s.resyncing <;> simp [hresync, hc.txAck_open, ho, State.emit, State.feed]

theorem handlePatchchg_feed (hc : OpenInstance c) (ho : s.portOpen = true) (p : ParsedFrame) :
    handlePatchchg c p s.feed = orAbort c (openOperand c c.parsePatchChange p) s.feed fun (bank, number) => { s with
      biteCount := 0
      currentPatch := { s.currentPatch with bank := bank, number := number }
      resyncing := true
      outputs := s.outputs ++ [.tx (gnxf s.channel [0x20] 0x66)] } := by
  refine congrArg (orAbort c _ _) (funext fun (bank, number) => ?_)
  simp [hc.txCurnameReq_open, ho, State.emit, State.feed]

end OpenInstance

/-! The rows, under the machine's configuration (R213 to R232). -/

/-- R210: a row on an open port. -/
theorem next_onFrame {cmd ch : Seven} {wire : Bytes} {h : Cfg → ParsedFrame → State → State} {s t : State}
    (ho : s.portOpen = true) (e : h cfg (parsedOf cfg cmd ch wire) s.feed = t) :
    (.next (onFrame cfg cmd h ch wire s) : Outcome) = .next t :=
  congrArg _ ((onFrame_open _ _ _ _ _ _ ho).trans e)

/-- R318: with a payload that does not unpack or does not parse the handler ends in Abort, else it goes on with the operand. -/
theorem orAbort_openOperand {α : Type} (parse : Bytes → Option α) (cmd ch : Seven) (wire : Bytes) (s : State) (go : α → State) :
    orAbort cfg (openOperand cfg parse (parsedOf cfg cmd ch wire)) s.feed go =
      ((unpack cfg wire).toOption.bind parse).elim (abortedFrom s [] (.payloadMalformed (wide cmd))) go := by
  rw [← abort_feed, openOperand, rawOf, parsedOf_wire]
  cases unpack cfg wire with
  | error x => rfl
  | ok raw =>
    simp only [Except.toOption, Option.bind_some]
    cases parse raw <;> rfl

/-- Settles O33: both acknowledgements run one handler. -/
theorem enquiryAckConnectsAndAsksForStatus : Obligations.EnquiryAckConnectsAndAsksForStatus := by
  intro ch wire s ho
  have hanswered (cmd : Seven) := openInstance_cfg.enquiryAnswered_feed ho (parsedOf cfg cmd ch wire)
  simp only [parsedOf_midiChannel, low7_wide] at hanswered
  exact ⟨next_onFrame ho (hanswered 0x01), next_onFrame ho (hanswered 0x02)⟩

/-- Settles O34: `handleStatus_feed`, and the operand read or not. -/
theorem statusResponseRecordsBankAndNumber : Obligations.StatusResponseRecordsBankAndNumber := by
  intro ch wire s ho
  refine next_onFrame ho ?_
  rw [openInstance_cfg.handleStatus_feed ho, orAbort_openOperand]
  cases unpack cfg wire with
  | error x => rfl
  | ok raw =>
    simp only [Except.toOption, Option.bind_some]
    cases cfg.parseStatus raw <;> rfl

/-- Settles O35: `handleNames_feed`, and the operand read or not. -/
theorem namesResponseStoresUserNamesOnly : Obligations.NamesResponseStoresUserNamesOnly := by
  intro ch wire s ho
  refine next_onFrame ho ?_
  rw [openInstance_cfg.handleNames_feed ho, orAbort_openOperand]
  cases unpack cfg wire with
  | error x => rfl
  | ok raw =>
    simp only [Except.toOption, Option.bind_some]
    cases cfg.parseNames raw <;> rfl

/-- Settles O36: `handleCurname_feed`, and the operand read or not. -/
theorem currentNameResponseIsAcknowledgedWhenResyncing : Obligations.CurrentNameResponseIsAcknowledgedWhenResyncing := by
  intro ch wire s ho
  refine next_onFrame ho ?_
  rw [openInstance_cfg.handleCurname_feed ho, orAbort_openOperand]
  cases unpack cfg wire with
  | error x => rfl
  | ok raw =>
    simp only [Except.toOption, Option.bind_some]
    cases cfg.parsePatchName raw <;> rfl

/-- Settles O37: `handlePatchchg_feed`, and the operand read or not. -/
theorem patchChangeStartsAMiniResync : Obligations.PatchChangeStartsAMiniResync := by
  intro ch wire s ho
  refine next_onFrame ho ?_
  rw [openInstance_cfg.handlePatchchg_feed ho, orAbort_openOperand]
  cases unpack cfg wire with
  | error x => rfl
  | ok raw =>
    simp only [Except.toOption, Option.bind_some]
    cases cfg.parsePatchChange raw <;> rfl

/-- Settles O39: the dispatch is there before the walk's verdict is. -/
theorem dumpIsHandedOverBeforeItsVerdict : Obligations.DumpIsHandedOverBeforeItsVerdict := by
  intro ch wire s ho
  refine next_onFrame ho ?_
  unfold handleDump
  cases hraw : unpack cfg wire with
  | error x => rw [rawOf_error (p := parsedOf cfg 0x24 ch wire) hraw, orAbort_error, abort_feed]; rfl
  | ok raw =>
    rw [rawOf_ok (p := parsedOf cfg 0x24 ch wire) hraw, orAbort_ok]
    cases hwalk : cfg.patchDumpWalk raw with
    | ok => simp only [hwalk]; rfl
    | patternMismatch => simp [hwalk, abort, abortedFrom, State.emit, State.feed]

/-- Settles O40: the handler writes `resyncing` alone, and the label is read off the registers. -/
theorem endOfDumpClearsResyncing : Obligations.EndOfDumpClearsResyncing := by
  intro ch wire s ho
  exact ⟨next_onFrame ho rfl, fun hconn hphase => by simp [label, ho, hconn, hphase]⟩

/-- Settles O42: both handlers are Abort. -/
theorem errorCommandsAbort : Obligations.ErrorCommandsAbort := by
  intro cmd ch wire s ho
  exact ⟨next_onFrame ho (abort_feed ..), next_onFrame ho (abort_feed ..)⟩

/-- Settles O43: the eight handlers are one, with their command codes. -/
theorem inertCommandsAreForwarded : Obligations.InertCommandsAreForwarded := by
  intro ch wire s ho
  exact ⟨next_onFrame ho rfl, next_onFrame ho rfl, next_onFrame ho rfl, next_onFrame ho rfl, next_onFrame ho rfl,
    next_onFrame ho rfl, next_onFrame ho rfl, next_onFrame ho rfl⟩

/-! The handshake as a whole (R233). -/

/-- The messages among the outputs, in order. -/
def transmitted (os : List Output) : List Bytes :=
  os.filterMap fun o => match o with
    | .tx m => some m
    | _ => none

theorem transmitted_append (xs ys : List Output) : transmitted (xs ++ ys) = transmitted xs ++ transmitted ys :=
  List.filterMap_append ..

/-- The messages `sent` are what the block has transmitted on the way from `s` to `t`. -/
def Transmitted (s : State) (sent : List Bytes) (t : State) : Prop :=
  ∃ emitted : List Output, t.outputs = s.outputs ++ emitted ∧ transmitted emitted = sent

theorem Transmitted.append {s t u : State} {sent : List Bytes} (h : Transmitted s sent t) {os : List Output}
    (ho : u.outputs = t.outputs ++ os) : Transmitted s (sent ++ transmitted os) u := by
  obtain ⟨emitted, houtputs, rfl⟩ := h
  exact ⟨emitted ++ os, by rw [ho, houtputs, List.append_assoc], transmitted_append ..⟩

theorem transmitted_openPort (c : Cfg) (s : State) : Transmitted s [c.enquiryFrame] (openPort c s) := by
  refine ⟨(if s.connected then [.notify .disconnected] else []) ++ [.tx c.enquiryFrame], ?_, ?_⟩
  · rw [openPort, fullResync_outputs, List.append_assoc]
  · cases s.connected <;> rfl

/-- A handshake that began in `s` has come to `t`: the block is connected and resyncing on channel `ch`, holds what it has received, and
has sent `sent`. -/
structure Syncing (s : State) (ch : Seven) (patch : Patch) (names : List Text) (sent : List Bytes) (t : State) : Prop where
  portOpen : t.portOpen = true
  connected : t.connected = true
  resyncing : t.resyncing = true
  uploadPhase : t.uploadPhase = 0
  channel : t.channel = ch
  currentPatch : t.currentPatch = patch
  userPatchNames : t.userPatchNames = names
  transmitted : Transmitted s sent t

namespace Syncing

variable {c : Cfg} {s t : State} {ch : Seven} {patch : Patch} {names : List Text} {sent : List Bytes}

/-- R203, R213, R214: PORT.OPEN and an enquiry acknowledgement. -/
theorem enquiryAnswered (hc : OpenInstance c) (s : State) (ch : Seven) {ack : Seven} (hack : ack = 0x01 ∨ ack = 0x02) {wire : Bytes}
    (hwire : all7 wire = true) :
    let adopted := if c.channelLock = none then ch else s.channel
    Syncing s adopted s.currentPatch s.userPatchNames [c.enquiryFrame, gnxf adopted [0x05, 0x00, 0x01] 0x42]
      (rx c (gnxfWire ch ack wire) (openPort c s)) := by
  have hhandler (t : State) : handle c (parsedOf cfg ack ch wire) t = Machine.enquiryAnswered c (parsedOf cfg ack ch wire) t := by
    obtain rfl | rfl := hack <;> rfl
  have ho := openPort_portOpen c s
  rw [hc.rx_frame ho ch ack hwire, hhandler, hc.enquiryAnswered_feed ho, parsedOf_midiChannel, low7_wide, openPort_channel,
    openPort_connected]
  exact ⟨ho, rfl, openPort_resyncing c s, openPort_uploadPhase c s, rfl, openPort_currentPatch c s, openPort_userPatchNames c s,
    (transmitted_openPort c s).append (os := [.notify .connected, .tx _]) (List.append_assoc ..)⟩

/-- R215: the factory names are asked for. -/
theorem status (h : Syncing s ch patch names sent t) (hc : OpenInstance c) (origin : Seven) {raw : Bytes} {bank number : Byte}
    (hparse : c.parseStatus raw = some (bank, number)) :
    Syncing s ch { patch with bank := bank, number := number } names (sent ++ [gnxf ch [0x12, 0x00, 0x00] 0x54])
      (rx c (gnxfOf origin 0x06 raw) t) := by
  obtain ⟨ho, hconn, hresync, hphase, rfl, rfl, rfl, hsent⟩ := h
  have hanswer := hc.handleStatus_feed ho (parsedOf cfg 0x06 origin (pack cfg raw))
  rw [hc.openOperand_packed _ _ hparse, orAbort_ok, if_pos hresync] at hanswer
  rw [(hc.rx_packed ho origin 0x06 raw).trans hanswer]
  exact ⟨ho, hconn, hresync, hphase, rfl, rfl, rfl, hsent.append (os := [.tx _]) rfl⟩

/-- R216: bank 0 is not stored, and the user names are asked for. -/
theorem factoryNames (h : Syncing s ch patch names sent t) (hc : OpenInstance c) (origin : Seven) {raw : Bytes}
    {received : List Text} (hparse : c.parseNames raw = some (0x00, received)) :
    Syncing s ch patch names (sent ++ [gnxf ch [0x12, 0x00, 0x01] 0x55]) (rx c (gnxfOf origin 0x13 raw) t) := by
  obtain ⟨ho, hconn, hresync, hphase, rfl, rfl, rfl, hsent⟩ := h
  have hanswer := hc.handleNames_feed ho (parsedOf cfg 0x13 origin (pack cfg raw))
  rw [hc.openOperand_packed _ _ hparse, orAbort_ok] at hanswer
  dsimp only at hanswer
  rw [if_pos hresync] at hanswer
  rw [(hc.rx_packed ho origin 0x13 raw).trans hanswer]
  exact ⟨ho, hconn, hresync, hphase, rfl, rfl, rfl, hsent.append (os := [.notify _, .tx _]) (List.append_assoc ..)⟩

/-- R216: bank 1 is stored, and the amp and cab names are asked for. -/
theorem userNames (h : Syncing s ch patch names sent t) (hc : OpenInstance c) (origin : Seven) {raw : Bytes}
    {received : List Text} (hparse : c.parseNames raw = some (0x01, received)) :
    Syncing s ch patch received (sent ++ [gnxf ch [0x07] 0x41]) (rx c (gnxfOf origin 0x13 raw) t) := by
  obtain ⟨ho, hconn, hresync, hphase, rfl, rfl, rfl, hsent⟩ := h
  have hanswer := hc.handleNames_feed ho (parsedOf cfg 0x13 origin (pack cfg raw))
  rw [hc.openOperand_packed _ _ hparse, orAbort_ok] at hanswer
  dsimp only at hanswer
  rw [if_pos hresync] at hanswer
  rw [(hc.rx_packed ho origin 0x13 raw).trans hanswer]
  exact ⟨ho, hconn, hresync, hphase, rfl, rfl, rfl, hsent.append (os := [.notify _, .tx _]) (List.append_assoc ..)⟩

/-- R217: the current patch's name is asked for. -/
theorem ampCabNames (h : Syncing s ch patch names sent t) (hc : OpenInstance c) (origin : Seven) {raw : Bytes}
    {amps cabs : List NameEntry} {pos pos' : Nat} (hamps : nameList (.payloadMalformed 0x08) raw 0 = .ok (amps, pos))
    (hcabs : nameList (.payloadMalformed 0x08) raw pos = .ok (cabs, pos')) :
    Syncing s ch patch names (sent ++ [gnxf ch [0x20] 0x66]) (rx c (gnxfOf origin 0x08 raw) t) := by
  obtain ⟨ho, hconn, hresync, hphase, rfl, rfl, rfl, hsent⟩ := h
  have hanswer := hc.handleAmpcab_feed ho (parsedOf cfg 0x08 origin (pack cfg raw))
  rw [hc.ampCabOperands_packed 0x08 origin hamps hcabs, orAbort_ok, if_pos hresync] at hanswer
  rw [(hc.rx_packed ho origin 0x08 raw).trans hanswer]
  exact ⟨ho, hconn, hresync, hphase, rfl, rfl, rfl, hsent.append (os := [.dispatch _, .tx _]) (List.append_assoc ..)⟩

/-- R218: the name is acknowledged. -/
theorem currentName (h : Syncing s ch patch names sent t) (hc : OpenInstance c) (origin : Seven) {raw : Bytes} {name : Text}
    (hparse : c.parsePatchName raw = some name) :
    Syncing s ch { patch with name := name } names (sent ++ [gnxf ch [0x7E, 0x00, 0x21] 0x19])
      (rx c (gnxfOf origin 0x21 raw) t) := by
  obtain ⟨ho, hconn, hresync, hphase, rfl, rfl, rfl, hsent⟩ := h
  have hanswer := hc.handleCurname_feed ho (parsedOf cfg 0x21 origin (pack cfg raw))
  rw [hc.openOperand_packed _ _ hparse, orAbort_ok, if_pos hresync] at hanswer
  rw [(hc.rx_packed ho origin 0x21 raw).trans hanswer]
  exact ⟨ho, hconn, hresync, hphase, rfl, rfl, rfl, hsent.append (os := [.notify _, .tx _]) (List.append_assoc ..)⟩

/-- R219: a dump is handed over, and nothing is asked for. -/
theorem dump (h : Syncing s ch patch names sent t) (hc : OpenInstance c) (origin : Seven) {raw : Bytes}
    (hwalk : c.patchDumpWalk raw = .ok) : Syncing s ch patch names sent (rx c (gnxfOf origin 0x24 raw) t) := by
  obtain ⟨ho, hconn, hresync, hphase, rfl, rfl, rfl, hsent⟩ := h
  have hanswer : handleDump c (parsedOf cfg 0x24 origin (pack cfg raw)) t.feed = t.feed.emit (.dispatch (.patchDump raw)) := by
    rw [handleDump, hc.rawOf_packed, orAbort_ok]
    simp only [hwalk]
  have hnone : Transmitted s (sent ++ []) (t.feed.emit (.dispatch (.patchDump raw))) := hsent.append (os := [.dispatch _]) rfl
  rw [(hc.rx_packed ho origin 0x24 raw).trans hanswer]
  exact ⟨ho, hconn, hresync, hphase, rfl, rfl, rfl, List.append_nil sent ▸ hnone⟩

/-- R220: the end of dump ends the handshake, whatever its payload. -/
theorem enddump (h : Syncing s ch patch names sent t) (hc : OpenInstance c) (origin : Seven) {wire : Bytes}
    (hwire : all7 wire = true) :
    let u := rx c (gnxfWire origin 0x22 wire) t
    label u = .connectedIdle ∧ u.channel = ch ∧ u.currentPatch = patch ∧ u.userPatchNames = names ∧ Transmitted s sent u := by
  have hended : rx c (gnxfWire origin 0x22 wire) t = { t.feed with resyncing := false } := hc.rx_frame h.portOpen origin 0x22 hwire
  rw [hended]
  exact ⟨by simp [label, h.portOpen, h.connected, h.uploadPhase], h.channel, h.currentPatch, h.userPatchNames, h.transmitted⟩

end Syncing

/-- Settles O60: each response keeps the block in the handshake and adds its request, until the end of dump. -/
theorem handshakeIssuesItsRequestsInOrder : Obligations.HandshakeIssuesItsRequestsInOrder := by
  intro enquiry parseStatus parsePatchChange parseNames parsePatchName walk lock c ch ack s ackWire status factory user ampcab name dump
    endWire bank number factoryNames userNames amps cabs text pos pos' hack hwires hstatus hfactory huser hname hdump hamps hcabs
  have hc : OpenInstance c := ⟨rfl, rfl, rfl, rfl, rfl, rfl, rfl, rfl, rfl⟩
  have h7 {wire : Bytes} (h : ∀ b ∈ wire, b.toNat < 0x80) : all7 wire = true := by simpa [all7_eq_all] using h
  obtain ⟨hackWire, hendWire⟩ := List.forall_mem_append.mp hwires
  have hanswered := Syncing.enquiryAnswered hc s ch hack (h7 hackWire)
  have hrequested := (((hanswered.status hc ch hstatus).factoryNames hc ch hfactory).userNames hc ch huser).ampCabNames hc ch hamps hcabs
  exact ((hrequested.currentName hc ch hname).dump hc ch hdump).enddump hc ch (h7 hendWire)

end Sys2Proof.Machine
end

section
/-! PROOFS. The family of spec/44_session_upload.md. Whether UPLOAD.START starts an upload is said by `uploadStarts_iff`. RX.ACK on an open
port is one equation, `exec_rxAck`: without a subcode it aborts, and the subcode it reads advances the upload when `awaited_iff` says so.
Both send a block by `txUpload_open_phase`. -/

namespace Sys2Proof.Machine

/-! HOST.SEND (R257). -/

/-- Settles O26: the command has bit 7 set, or is a 7-bit value that Send takes. -/
theorem hostSendRefusesAnEightBitCommand : Obligations.HostSendRefusesAnEightBitCommand := by
  intro cmd raw s
  refine congrArg Host.Outcome.next ?_
  by_cases h7 : cmd.toNat < 0x80
  · rw [if_neg (Nat.not_le.mpr h7), hostSend, if_pos ((is7_iff cmd).mpr h7), send_eq_sendOrLog]
    rfl
  · rw [if_pos (Nat.not_lt.mp h7), hostSend, if_neg (mt (is7_iff cmd).mp h7)]
    rfl

/-! UPLOAD.START (R250). -/

theorem uploadMayStart_iff (s : State) : uploadMayStart s = true ↔
    s.portOpen = true ∧ s.connected = true ∧ s.resyncing = false ∧ s.uploadPhase = 0 := by
  simp [uploadMayStart, and_assoc]

theorem hostBlocksOk_iff (bs : List HostBlock) : hostBlocksOk bs = true ↔ ∀ b ∈ bs, b.cmd.toNat < 0x80 := by
  simp [hostBlocksOk, is7_iff]

/-- R250: the whole precondition. -/
theorem uploadStarts_iff (s : State) (bs : List HostBlock) : (uploadMayStart s && hostBlocksOk bs) = true ↔
    s.portOpen = true ∧ s.connected = true ∧ s.resyncing = false ∧ s.uploadPhase = 0 ∧ ∀ b ∈ bs, b.cmd.toNat < 0x80 := by
  rw [Bool.and_eq_true, uploadMayStart_iff, hostBlocksOk_iff]
  simp only [and_assoc]

/-- R250, R252: on an open port the numbered block of the register leaves as one frame, and then the phase is written. -/
theorem txUpload_open_phase {s : State} (ho : s.portOpen = true) (i : Fin 8) (ph : BitVec 4) :
    { txUpload cfg i s with uploadPhase := ph } = { s with
      uploadPhase := ph
      outputs := s.outputs ++ [.tx (gnxfOf s.channel (blockOf s.uploadBlocks i).cmd (blockOf s.uploadBlocks i).raw)] } := by
  rw [txUpload, send_eq_sendOrLog, State.sendOrLog_open ho]
  rfl

/-- Settles O27: the two tests are the statement's condition, and an upload that starts has its port open. -/
theorem uploadStartLatchesAndSendsBlockOne : Obligations.UploadStartLatchesAndSendsBlockOne := by
  intro b1 b2 b3 b4 b5 b6 b7 b8 s
  refine congrArg Host.Outcome.next ?_
  have htests := uploadStarts_iff s [b1, b2, b3, b4, b5, b6, b7, b8]
  by_cases hstarts : (uploadMayStart s && hostBlocksOk [b1, b2, b3, b4, b5, b6, b7, b8]) = true
  · obtain ⟨ho, -⟩ := htests.mp hstarts
    rw [if_pos (htests.mp hstarts)]
    exact (if_pos hstarts).trans (txUpload_open_phase (s := { s with
      uploadBlocks := ⟨latch b1, latch b2, latch b3, latch b4, latch b5, latch b6, latch b7, latch b8⟩ }) ho 0 1)
  · rw [if_neg (mt htests.mpr hstarts)]
    exact if_neg hstarts

/-! RX.ACK (R251 to R253). -/

/-- R107: the subcode is the payload's first byte. -/
theorem ackOperand_eq_openOperand (p : ParsedFrame) : ackOperand cfg p = openOperand cfg List.head? p := by
  unfold ackOperand openOperand
  cases rawOf cfg p with
  | error x => rfl
  | ok raw => cases raw <;> rfl

/-- R252: what the subcode `sub` does in the state `s`. -/
def acknowledged (s : State) (sub : Byte) : State :=
  if uploadRuns s ∧ awaitedSubcode cfg s.uploadPhase.toNat = some sub then uploadAdvance cfg s.uploadPhase.toNat s else s

/-- R107, R252: RX.ACK on an open port; a payload without a first byte, or one that does not unpack, aborts. -/
theorem exec_rxAck {s : State} (ho : s.portOpen = true) (ch : Seven) (wire : Bytes) : exec (.rxAck ch wire) s = .next
    (((unpack cfg wire).toOption.bind List.head?).elim (abortedFrom s [] (.payloadMalformed 0x7E)) (acknowledged s.feed)) :=
  next_onFrame ho ((congrArg (orAbort cfg · _ _) (ackOperand_eq_openOperand _)).trans (orAbort_openOperand ..))

/-- R251: the seven phases await the seven subcodes in order. -/
theorem awaited_iff (s : State) (sub : Byte) : uploadRuns s ∧ awaitedSubcode cfg s.uploadPhase.toNat = some sub ↔
    1 ≤ s.uploadPhase.toNat ∧ [0x21, 0x24, 0x2A, 0x2A, 0x2A, 0x26, 0x28][s.uploadPhase.toNat - 1]? = some sub := by
  unfold uploadRuns
  cases s.uploadPhase.toNat with
  | zero => simp
  | succ n =>
    have hlt : ([0x21, 0x24, 0x2A, 0x2A, 0x2A, 0x26, 0x28] : Bytes)[n]? = some sub → n < 7 :=
      fun h => (List.getElem?_eq_some_iff.mp h).1
    exact ⟨fun ⟨⟨hpos, _⟩, h⟩ => ⟨hpos, h⟩, fun ⟨hpos, h⟩ => ⟨⟨hpos, hlt h⟩, h⟩⟩

/-- Settles O44: the subcode is read and is the one awaited, so that the upload advances. -/
theorem awaitedAckSendsTheNextBlock : Obligations.AwaitedAckSendsTheNextBlock := by
  intro ch wire sub rest ph s ho hpos hphase hunpack hsub
  rw [exec_rxAck ho, hunpack]
  refine congrArg Host.Outcome.next ?_
  have hawaited := (awaited_iff s.feed sub).mpr (by rw [State.feed_uploadPhase, hphase]; exact ⟨hpos, hsub⟩)
  have hblock : Fin.ofNat 8 ph.val = ph := Fin.ofNat_val_eq_self ph
  have hnext : BitVec.ofNat 4 (ph.val + 1) = s.uploadPhase + 1 := by
    rw [← hphase]
    exact BitVec.eq_of_toNat_eq (by simp)
  calc acknowledged s.feed sub
    _ = uploadAdvance cfg ph.val s.feed := by rw [acknowledged, if_pos hawaited, State.feed_uploadPhase, hphase]
    _ = _ := by rw [uploadAdvance, txUpload_open_phase (s := s.feed) ho, hblock, hnext]; rfl

/-- Settles O45: the subcode read is not the one awaited, or there is none. -/
theorem unawaitedAckIsInert : Obligations.UnawaitedAckIsInert := by
  intro ch wire s ho
  rw [exec_rxAck ho]
  refine ⟨fun sub rest hunpack hother => ?_, fun hunpack => by rw [hunpack]; rfl, fun x hunpack => by rw [hunpack]; rfl⟩
  have hunawaited : ¬ (uploadRuns s.feed ∧ awaitedSubcode cfg s.feed.uploadPhase.toNat = some sub) := by
    rw [awaited_iff, State.feed_uploadPhase]
    rintro ⟨hpos, hsub⟩
    obtain hzero | habove | hne := hother
    · simp [hzero] at hpos
    · obtain ⟨hlt, -⟩ := List.getElem?_eq_some_iff.mp hsub
      simp only [List.length_cons, List.length_nil] at hlt
      omega
    · exact hne hsub
  rw [hunpack]
  exact congrArg Host.Outcome.next (if_neg hunawaited)

end Sys2Proof.Machine
end

section
/-! PROOFS. The family of spec/45_watchdog.md. What a tick does is said once for each of its branches: nothing on a closed port, a
keep-alive below the limit (`wdTick_belowLimit`), FullResync at it. A silent run (R274) is an induction over the ticks below the limit
(`run_ticksBelowLimit`) and the one tick that reaches it. -/

namespace Sys2Proof.Machine

/-! One tick (R270, R272). -/

theorem wdTick_closed {s : State} (hc : s.portOpen = false) (c : Cfg) : wdTick c s = s :=
  if_neg (by simp [hc])

theorem wdTick_atLimit {s : State} {c : Cfg} (ho : s.portOpen = true) (hlimit : c.wdLimit ≤ s.biteCount.toNat + 1) :
    wdTick c s = fullResync c s := by
  rw [wdTick, if_pos ho, if_pos hlimit]

/-- What `n` ticks that stay below the limit do to a state with its port open: each counts a miss and transmits a keep-alive (R272). -/
def State.afterMisses (s : State) (n : Nat) : State :=
  { s with
    biteCount := s.biteCount + BitVec.ofNat 3 n
    outputs := s.outputs ++ List.replicate n (.tx (gnxf s.channel [0x76] 0x30)) }

theorem State.afterMisses_zero (s : State) : s.afterMisses 0 = s := by
  simp [State.afterMisses]

theorem State.afterMisses_afterMisses (s : State) (m n : Nat) : (s.afterMisses m).afterMisses n = s.afterMisses (m + n) := by
  simp only [State.afterMisses, List.append_assoc, List.replicate_append_replicate, BitVec.add_assoc, ← BitVec.ofNat_add]

theorem wdTick_belowLimit {s : State} (ho : s.portOpen = true) (hbelow : s.biteCount.toNat < 4) :
    wdTick cfg s = s.afterMisses 1 := by
  have hcount : BitVec.ofNat 3 (s.biteCount.toNat + 1) = s.biteCount + 1 := BitVec.eq_of_toNat_eq (by simp)
  have hlimit : ¬ s.biteCount.toNat + 1 ≥ cfg.wdLimit := Nat.not_le.mpr (Nat.succ_lt_succ hbelow)
  rw [wdTick, if_pos ho, if_neg hlimit, hcount, txKeepalive_eq]
  exact State.sendOrLog_open (s := { s with biteCount := s.biteCount + 1 }) ho _

/-- Settles O28: the port test, and the limit of 5 compared with the count after the tick. -/
theorem watchdogTickKeepsAliveOrResyncs : Obligations.WatchdogTickKeepsAliveOrResyncs := by
  intro s
  refine congrArg Host.Outcome.next ?_
  by_cases hc : s.portOpen = false
  · rw [if_pos hc, wdTick_closed hc]
  · have ho : s.portOpen = true := Bool.eq_true_of_not_eq_false hc
    rw [if_neg hc]
    by_cases hbelow : s.biteCount.toNat < 4
    · rw [if_pos hbelow, wdTick_belowLimit ho hbelow]
      rfl
    · rw [if_neg hbelow, wdTick_atLimit ho (Nat.succ_le_succ (Nat.not_lt.mp hbelow)), fullResync_eq]

/-! A run of ticks (R274). -/

theorem run_succ_of_step {M : Host.Core} {s t : M.State} (h : M.step s = .next t) (k : Nat) : M.run (k + 1) s = M.run k t := by
  rw [Host.Core.run, h]

theorem step_wdTick {s : State} {rest : List Item} (hqueue : s.pending = .call .wdTick [] :: rest) :
    step s = .next (wdTick cfg { s with pending := rest }) := by
  rw [step, hqueue]
  rfl

theorem run_wdTick {s : State} {rest : List Item} (hqueue : s.pending = .call .wdTick [] :: rest) (k : Nat) :
    core.run (k + 1) s = core.run k (wdTick cfg { s with pending := rest }) :=
  run_succ_of_step (M := core) (step_wdTick hqueue) k

theorem run_wdTick_belowLimit {s : State} {rest : List Item} (ho : s.portOpen = true) (hbelow : s.biteCount.toNat < 4)
    (hqueue : s.pending = .call .wdTick [] :: rest) (k : Nat) :
    core.run (k + 1) s = core.run k { s.afterMisses 1 with pending := rest } :=
  (run_wdTick hqueue k).trans (congrArg (core.run k) (wdTick_belowLimit (s := { s with pending := rest }) ho hbelow))

/-- R270: as long as the count stays below the limit, ticks only count and transmit keep-alives; `k` further steps go on from there. -/
theorem run_ticksBelowLimit (n k : Nat) {s : State} {rest : List Item} (ho : s.portOpen = true)
    (hbelow : s.biteCount.toNat + n ≤ 4) (hqueue : s.pending = List.replicate n (.call .wdTick []) ++ rest) :
    core.run (k + n) s = core.run k { s.afterMisses n with pending := rest } := by
  induction n generalizing s with
  | zero => rw [State.afterMisses_zero, ← show s.pending = rest from hqueue, Nat.add_zero]
  | succ n ih =>
    have hstill : (s.afterMisses 1).biteCount.toNat + n ≤ 4 := by
      have hcount : (s.afterMisses 1).biteCount.toNat = (s.biteCount.toNat + 1) % 8 := BitVec.toNat_add ..
      omega
    calc core.run (k + n + 1) s
      _ = core.run (k + n) { s.afterMisses 1 with pending := List.replicate n (.call .wdTick []) ++ rest } :=
        run_wdTick_belowLimit ho (by omega) hqueue _
      _ = core.run k { (s.afterMisses 1).afterMisses n with pending := rest } :=
        ih (s := { s.afterMisses 1 with pending := _ }) ho hstill rfl
      _ = core.run k { s.afterMisses (n + 1) with pending := rest } := by rw [State.afterMisses_afterMisses, Nat.add_comm]

/-- Settles O29: four ticks stay below the limit, and FullResync answers the fifth. -/
theorem fiveSilentTicksGiveExactlyOneResync : Obligations.FiveSilentTicksGiveExactlyOneResync := by
  intro s rest ho hcount hqueue
  have hlimit : cfg.wdLimit ≤ (s.afterMisses 4).biteCount.toNat + 1 := by simp [State.afterMisses, hcount]
  calc core.run 5 s
    _ = core.run 1 { s.afterMisses 4 with pending := .call .wdTick [] :: rest } := run_ticksBelowLimit 4 1 ho (by simp [hcount]) hqueue
    _ = .next (wdTick cfg { s.afterMisses 4 with pending := rest }) := run_wdTick rfl 0
    _ = .next (fullResync cfg { s.afterMisses 4 with pending := rest }) := congrArg Host.Outcome.next (wdTick_atLimit ho hlimit)
    _ = _ := congrArg Host.Outcome.next (fullResync_eq cfg _)

end Sys2Proof.Machine
end

section
/-! PROOFS. The family of spec/60_exceptions.md. What RX does with a message that it drops is said once for each reason: empty, rejected by
FRAME.PARSE (`rx_rejected`), accepted with other ids (`rx_foreign`). That every instruction answers a next state is part of
`exec_onlyAppends`. -/

namespace Sys2Proof.Machine

/-! The messages that RX drops (R210, R312). -/

theorem rx_nil {s : State} (ho : s.portOpen = true) (c : Cfg) : rx c [] s = s.emit (.log .emptyMessage) := by
  rw [rx, if_pos ho]

theorem rx_rejected {c : Cfg} {m : Bytes} {x : ErrorCode} {s : State} (ho : s.portOpen = true) (hm : m.head? = some 0xF0)
    (hp : frameParse c m = .error x) : rx c m s = s.emit (.log (.dropped x)) := by
  obtain ⟨bs, rfl⟩ := List.head?_eq_some_iff.mp hm
  simp only [rx, ho, if_true, ne_eq, not_true_eq_false, if_false, hp]

theorem rx_foreign {c : Cfg} {m : Bytes} {p : ParsedFrame} {s : State} (ho : s.portOpen = true) (hm : m.head? = some 0xF0)
    (hp : frameParse c m = .ok p) (hd : forThisDevice c p = false) : rx c m s = s.emit (.log (.dropped .notForThisDevice)) := by
  obtain ⟨bs, rfl⟩ := List.head?_eq_some_iff.mp hm
  simp only [rx, ho, if_true, ne_eq, not_true_eq_false, if_false, hp, hd, Bool.false_eq_true]

/-- R175: the start byte of a message that FRAME.PARSE accepts. -/
theorem head?_of_frameParse_ok {c : Cfg} {m : Bytes} {p : ParsedFrame} (h : frameParse c m = .ok p) : m.head? = some 0xF0 := by
  unfold frameParse at h
  split at h
  · cases h
  · next hdelimited =>
    obtain ⟨hlen, hstart, -⟩ : ¬ m.length < 9 ∧ byteAt m 0 = 0xF0 ∧ byteAt m (m.length - 1) = 0xF7 := by
      simpa only [not_or, ne_eq, not_not] using hdelimited
    exact (byteAt_zero_eq_iff (List.ne_nil_of_length_pos (by omega)) _).mp hstart

/-- R7: a difference in either id is enough. -/
theorem forThisDevice_eq_false_iff (c : Cfg) (p : ParsedFrame) :
    forThisDevice c p = false ↔ p.mnfrId ≠ c.mnfrId ∨ p.deviceId ≠ c.deviceId := by
  rw [forThisDevice, Bool.and_eq_false_iff, beq_eq_false_iff_ne, beq_eq_false_iff_ne]

/-! The events that need an open port (R201, R205). -/

theorem send_closed {s : State} (hc : s.portOpen = false) (cmd : Seven) (raw : Bytes) :
    send cfg cmd raw s = s.emit (.log .portNotOpen) := by
  rw [send_eq, if_neg (by simp [hc])]

theorem hostResync_closed {s : State} (hc : s.portOpen = false) (c : Cfg) : hostResync c s = s.emit (.log .portNotOpen) :=
  if_neg (by simp [hc])

/-- Settles O30: each dropped message, and each event on a closed port, has its lemma; an accepted frame begins with F0. -/
theorem rxDropsWhatIsNotAFrameOfTheDevice : Obligations.RxDropsWhatIsNotAFrameOfTheDevice := by
  intro m s
  refine ⟨fun hc => ?closed, fun ho hm => ?empty, fun x ho hm hp => ?rejected, fun p ho hp hids => ?foreign,
    fun cmd raw hc => ⟨?send, ?resync⟩⟩
  case closed => exact congrArg Host.Outcome.next (rx_closed hc m)
  case empty => exact hm ▸ congrArg Host.Outcome.next (rx_nil ho cfg)
  case rejected => exact congrArg Host.Outcome.next (rx_rejected ho hm hp)
  case foreign =>
    have hother : forThisDevice cfg p = false := (forThisDevice_eq_false_iff cfg p).mpr hids
    exact congrArg Host.Outcome.next (rx_foreign ho (head?_of_frameParse_ok hp) hp hother)
  case send => exact congrArg Host.Outcome.next (send_closed hc cmd raw)
  case resync => exact congrArg Host.Outcome.next (hostResync_closed hc cfg)

/-! Abort (R317) and totality (R316). -/

/-- R317: Abort in full. -/
theorem abort_eq (c : Cfg) (x : ErrorCode) (s : State) : abort c x s = { s with
    resyncing := false
    uploadPhase := 0
    outputs := s.outputs ++ [.alert .protocolViolation x (c.alertTitle x) (c.alertText x)] } := rfl

/-- Settles O21: the row is the procedure. -/
theorem abortClearsTheTransactionAndAlertsOnce : Obligations.AbortClearsTheTransactionAndAlertsOnce :=
  fun x s => congrArg Host.Outcome.next (abort_eq cfg x s)

theorem exec_next (i : Instr) (s : State) : ∃ t : State, exec i s = .next t := by
  obtain ⟨t, h, -⟩ := exec_onlyAppends i s
  exact ⟨t, h⟩

/-- Settles O56: a step is idle, runs an instruction, or refuses a head that the hypothesis excludes. -/
theorem everyInstructionAnswersANextState : Obligations.EveryInstructionAnswersANextState := by
  refine ⟨exec_next, fun s hhead => ?_⟩
  obtain ⟨-, e⟩ | ⟨-, rest, i, -, -, e⟩ | ⟨item, rest, err, hqueue, hrefused, -⟩ := step_cases s
  · exact ⟨s, e⟩
  · rw [e]
    exact exec_next i { s with pending := rest }
  · obtain ⟨i, hdecodes⟩ := hhead item (by rw [hqueue]; rfl)
    cases hdecodes.symm.trans hrefused

end Sys2Proof.Machine
end

section
/-! PROOFS. The family of spec/70_reset_and_hazards.md. What one instruction can do while no upload is in progress is said once, in
`exec_noUpload_or_begins`: there is still none, or UPLOAD.START begins one. Every received frame goes through the one dispatch of R212,
since a row's handler is the one that its command byte selects. -/

namespace Sys2Proof.Machine

/-! RESET (R350). -/

/-- Settles O22: `uploadBlocks` takes the value that the environment gives for this reset. -/
theorem resetGivesEveryRegisterItsResetValue : Obligations.ResetGivesEveryRegisterItsResetValue :=
  fun s => ⟨cfg.freeBlocks s.freeCount, rfl⟩

/-! The upload phase 0 (R250, R351). -/

/-- No upload is in progress: the phase from which UPLOAD.START may begin one. -/
def NoUpload (s : State) : Prop :=
  s.uploadPhase = 0

/-- The instruction is UPLOAD.START, and in `t` its eight blocks are latched and the first awaits its acknowledgement. -/
def BeginsUpload (i : Instr) (t : State) : Prop :=
  ∃ b1 b2 b3 b4 b5 b6 b7 b8 : HostBlock, i = .uploadStart b1 b2 b3 b4 b5 b6 b7 b8 ∧ t.uploadPhase = 1 ∧
    t.uploadBlocks = ⟨latch b1, latch b2, latch b3, latch b4, latch b5, latch b6, latch b7, latch b8⟩

namespace NoUpload

variable {s t : State}

theorem not_uploadRuns (h : NoUpload s) : ¬ uploadRuns s := by
  have hphase : s.uploadPhase = 0 := h
  simp [uploadRuns, hphase]

theorem emit (h : NoUpload s) (o : Output) : NoUpload (s.emit o) :=
  h

theorem feed (h : NoUpload s) : NoUpload s.feed :=
  h

/-- R317: Abort leaves no upload, whatever was in progress. -/
theorem abort (x : ErrorCode) (s : State) : NoUpload (abort cfg x s) :=
  abort_uploadPhase cfg x s

theorem send (h : NoUpload s) (cmd : Seven) (raw : Bytes) : NoUpload (send cfg cmd raw s) :=
  (send_uploadPhase cfg cmd raw s).trans h

/-- A handler writes registers that are not the phase, and then sends. -/
theorem send_of_eq (h : NoUpload s) {cmd : Seven} {raw : Bytes} (e : t.uploadPhase = s.uploadPhase) :
    NoUpload (Machine.send cfg cmd raw t) :=
  send (e.trans h) cmd raw

theorem of_dropsLink (d : DropsLink s t) : NoUpload t :=
  d.uploadPhase

theorem ite {p : Prop} [Decidable p] (hs : NoUpload s) (ht : NoUpload t) : NoUpload (if p then s else t) := by
  split
  · exact hs
  · exact ht

/-- R318: a handler leaves no upload if what it does with its operands does. -/
theorem orAbort {α : Type} {r : Except ErrorCode α} {go : α → State} (hgo : ∀ a, NoUpload (go a)) :
    NoUpload (orAbort cfg r s go) := by
  obtain ⟨a, -, e⟩ | ⟨x, -, e⟩ := orAbort_cases cfg r s go
  · exact e ▸ hgo a
  · exact e ▸ abort x s

/-! The handlers with a choice of their own. The others write registers that are not the phase, emit, and send. -/

theorem enquiryAnswered (h : NoUpload s) (p : ParsedFrame) : NoUpload (enquiryAnswered cfg p s) :=
  have adopted : NoUpload { s with channel := if cfg.channelLock = none then low7 p.midiChannel else s.channel } := h
  have noticed := adopted.ite (adopted.emit (.notify .connected))
  noticed.send_of_eq rfl

theorem handleNames (h : NoUpload s) (p : ParsedFrame) : NoUpload (handleNames cfg p s) :=
  .orAbort fun _ => .ite (.ite (.send_of_eq h rfl) (.send_of_eq h rfl)) h

theorem handleDump (h : NoUpload s) (p : ParsedFrame) : NoUpload (handleDump cfg p s) := by
  refine .orAbort fun raw => ?_
  cases hw : cfg.patchDumpWalk raw with
  | ok => simpa only [hw] using h.emit _
  | patternMismatch => simpa only [hw] using abort ..

theorem handleParam (h : NoUpload s) (p : ParsedFrame) : NoUpload (handleParam cfg p s) :=
  .ite (.send (.orAbort fun _ => .ite (h.emit _) h) _ _) h

/-- R252: with no upload in progress no acknowledgement is awaited. -/
theorem handleAck (h : NoUpload s) (p : ParsedFrame) : NoUpload (handleAck cfg p s) := by
  obtain ⟨-, -, runs, -⟩ | ⟨-, -, e⟩ | ⟨x, -, e⟩ := handleAck_cases cfg p s
  · exact absurd runs h.not_uploadRuns
  · rw [e]; exact h
  · rw [e]; exact abort x s

/-- R212: whichever handler the command byte selects. -/
theorem handle (h : NoUpload s) (p : ParsedFrame) : NoUpload (handle cfg p s) := by
  unfold Machine.handle
  cases inCommand p.commandCode with
  | none => exact .abort ..
  | some k =>
    cases k with
    | enqack1 | enqack2 => exact h.enquiryAnswered p
    | status | ampcab | curname => exact .orAbort fun _ => .ite (.send_of_eq h rfl) h
    | names => exact h.handleNames p
    | dump => exact h.handleDump p
    | param => exact h.handleParam p
    | patchchg => exact .orAbort fun _ => .send_of_eq h rfl
    | ack => exact h.handleAck p
    | nak => exact .abort ..
    | enddump | ampcabReq | x0A | namesReq | curnameReq | expr | x28 | custom | x2E => exact h

/-- R210, R212: a received frame's row, whose handler is the one that its command byte selects. -/
theorem onFrame (h : NoUpload s) {cmd ch : Seven} {wire : Bytes} {handler : Cfg → ParsedFrame → State → State}
    (hselected : handler cfg (parsedOf cfg cmd ch wire) = Machine.handle cfg (parsedOf cfg cmd ch wire)) :
    NoUpload (onFrame cfg cmd handler ch wire s) :=
  .ite (hselected ▸ h.feed.handle _) h

theorem rx (h : NoUpload s) (m : Bytes) : NoUpload (rx cfg m s) := by
  obtain ⟨-, e⟩ | ⟨-, -, e⟩ | ⟨-, -, -, e⟩ | ⟨x, -, -, -, e⟩ | ⟨-, -, -, -, -, e⟩ | ⟨p, -, -, -, -, e⟩ := rx_cases cfg m s
  case inr.inr.inr.inr.inr => rw [e]; exact h.feed.handle p
  all_goals rw [e]; exact h

end NoUpload

/-- R250: UPLOAD.START begins an upload or refuses. -/
theorem uploadStart_noUpload_or_begins {s : State} (h : NoUpload s) (b1 b2 b3 b4 b5 b6 b7 b8 : HostBlock) :
    NoUpload (uploadStart cfg b1 b2 b3 b4 b5 b6 b7 b8 s) ∨
      BeginsUpload (.uploadStart b1 b2 b3 b4 b5 b6 b7 b8) (uploadStart cfg b1 b2 b3 b4 b5 b6 b7 b8 s) := by
  obtain ⟨-, -, e⟩ | e := uploadStart_cases cfg b1 b2 b3 b4 b5 b6 b7 b8 s
  · rw [e]
    exact .inr ⟨b1, b2, b3, b4, b5, b6, b7, b8, rfl, rfl, send_uploadBlocks ..⟩
  · exact .inl (e ▸ h)

/-- With no upload in progress, every instruction answers a next state in which there is none, or begins one. -/
theorem exec_noUpload_or_begins (i : Instr) {s : State} (h : NoUpload s) :
    ∃ t : State, exec i s = .next t ∧ (NoUpload t ∨ BeginsUpload i t) := by
  have stays : ∀ {t : State}, NoUpload t → ∃ t' : State, (.next t : Outcome) = .next t' ∧ (NoUpload t' ∨ BeginsUpload i t') :=
    fun ht => ⟨_, rfl, .inl ht⟩
  have resynced : NoUpload (fullResync cfg s) := .of_dropsLink (dropsLink_fullResync s)
  cases i with
  | uploadStart b1 b2 b3 b4 b5 b6 b7 b8 => exact ⟨_, rfl, uploadStart_noUpload_or_begins h b1 b2 b3 b4 b5 b6 b7 b8⟩
  | fullResync => exact stays resynced
  | reset => exact stays (.of_dropsLink (dropsLink_resetSession s))
  | portOpen => exact stays (.of_dropsLink (dropsLink_openPort s))
  | portClose => exact stays (.of_dropsLink (dropsLink_closePort s))
  | hostResync => exact stays (.ite resynced h)
  | wdTick => exact stays (.ite (.ite resynced (.send_of_eq h rfl)) h)
  | abort x => exact stays (.abort x s)
  | rx m => exact stays (h.rx m)
  | rxUnrec => exact stays (.ite (.abort ..) h)
  | rxEnqack1 | rxEnqack2 | rxStatus | rxAmpcabReq | rxAmpcab | rxX0A | rxNamesReq | rxNames | rxCurnameReq | rxCurname | rxEnddump
  | rxDump | rxExpr | rxX28 | rxCustom | rxParam | rxPatchchg | rxX2E | rxAck | rxNak => exact stays (h.onFrame rfl)
  | rxPassthru => exact stays (.ite h h)
  | hostSend | txUpload => exact stays (.ite (h.send _ _) h)
  | send | txStatusReq | txNamesReq | txAmpcabReq | txCurnameReq | txKeepalive | txAck | txHost => exact stays (h.send _ _)
  | varintV1 | varintV2 | varintV3 | varintV4 | varintIllegal0 | varintIllegalN | packgroup | varintEnc | varintDec | pack | unpack
  | cksum | frameBuild | frameBuildP | frameParse | frameUnpack | rawOf | txEnquiry => exact stays h

/-- Settles O53: with no upload in progress before, there is none after, or the instruction began it. -/
theorem onlyUploadStartBeginsAnUpload : Obligations.OnlyUploadStartBeginsAnUpload := by
  intro i s t hexec hbefore hafter
  obtain ⟨t', ht', hnone | hbegins⟩ := exec_noUpload_or_begins i (s := s) hbefore
  all_goals cases ht'.symm.trans hexec
  · exact absurd hnone hafter
  · exact hbegins

end Sys2Proof.Machine
end
